-- ==== Sys2Proof/Word.lean ====
section
/-! DEFINITION. The word sizes and the index types of the CL-740 (00_scope.md, "Numbers and memory"
and "Indexes and counts"). -/

namespace Sys2Proof

/-- One byte of exchange memory or of a field port frame. -/
abbrev Byte := BitVec 8

/-- A two-byte field, stored least significant byte first. -/
abbrev Half := BitVec 16

/-- A word is 32 bits. -/
abbrev Word := BitVec 32

/-- The 64-bit identity of a board. -/
abbrev Serial := BitVec 64

/-- Line time: a count of milliseconds that wraps modulo 2^32. -/
abbrev Time := BitVec 32

/-- Board tags run from 0 to 31. -/
abbrev Tag := Fin 32

/-- Applicators run from 0 to 3. -/
abbrev ApplicatorId := Fin 4

/-- Coatings run from 0 to 3. -/
abbrev CoatingId := Fin 4

/-- Recipes run from 0 to 15. -/
abbrev RecipeId := Fin 16

/-- Path programs run from 0 to 15. -/
abbrev ProgramId := Fin 16

/-- Map frames run from 0 to 7. -/
abbrev FrameId := Fin 8

/-- Hold slots in the numbering of SLOT_STATE: 0-5 are spur slots, 6 and 7 mask-lane slots 0 and 1. -/
abbrev SlotId := Fin 8

/-- Card indexes run from 0 to 63. -/
abbrev CardId := Fin 64

end Sys2Proof
end

