-- ==== Sys2Proof/Syntax.lean ====
section
/-! DEFINITION. The commands of the CL-740: one constructor of `Instr` for each row of
spec/opcode_table.json, with the operands the rules give it. -/

namespace Sys2Proof

/-- The four field ports (R180). -/
inductive Port where
  | motion
  | fluid
  | station
  | oven
  deriving DecidableEq, Repr, Inhabited

/-- The six station transfer routes (R15). -/
inductive Route where
  | maskToInfeed
  | maskToLane
  | infeedToCell
  | cellToFlash
  | coolToExit
  | coolToSpur
  deriving DecidableEq, Repr, Inhabited

/-- How far a reset has come when the next command is taken (R175; DESIGN CHOICE,
notes/assumptions/24.md). -/
inductive ResetExtent where
  /-- A cause of the reset is still present: the part is held in reset. -/
  | held
  /-- The last cause has ended: the restart has made its conversion and opened the activity list, and has
  visited the first `visits` of the 64 cards and then the 32 board records that it reports. -/
  | restart (visits : Nat)
  deriving DecidableEq, Repr, Inhabited

/-- The commands: host port writes, the Card Processor's scan and the processing of each taken card,
received field messages, deadline expiries, the line time tick, resets and the byte-level events of
the field ports. A message carries its payload fields as they stand in the frame (section 11.3). -/
inductive Instr where
  /-- HOST_MEMORY_WRITE (R24): the 15-bit word address and the word. -/
  | hostMemoryWrite (address : BitVec 15) (data : Word)
  /-- POSTING (R27): the host writes POSTED to entry `card`; `upper` is bytes 1-3 of the word. -/
  | posting (card : CardId) (upper : BitVec 24)
  /-- WITHDRAWAL (R27): the host writes FREE to entry `card`, found POSTED. -/
  | withdrawal (card : CardId) (upper : BitVec 24)
  /-- CARD_RETURN (R27): the host writes FREE to entry `card`, found DONE. -/
  | cardReturn (card : CardId) (upper : BitVec 24)
  /-- LINE_CTL_RUN (R168): mode code 1; `upper` is bits 8-31 of the word. -/
  | lineCtlRun (upper : BitVec 24)
  /-- LINE_CTL_FREEZE (R168): mode code 2. -/
  | lineCtlFreeze (upper : BitVec 24)
  /-- LINE_CTL_DRAIN (R168): mode code 3. -/
  | lineCtlDrain (upper : BitVec 24)
  /-- LINE_CTL_OTHER_CODE (R41): the whole word; its mode code is none of 1-3. -/
  | lineCtlOtherCode (data : Word)
  /-- ATTN_WRITE (R42). -/
  | attnWrite (data : Word)
  /-- ATTN_EN_WRITE (R43). -/
  | attnEnWrite (data : Word)
  /-- START_STATUS_WRITE (R44). -/
  | startStatusWrite (data : Word)
  /-- REGISTER_WRITE_DROPPED (R22): the word address, with the register select active, and the word. -/
  | registerWriteDropped (address : BitVec 15) (data : Word)
  /-- SCAN (R29): the walk starts, or goes on, over the next `visits` entries of the card directory. A host
  write between two entries of the walk is a command between two such commands (DESIGN CHOICE,
  notes/assumptions/29.md); the whole walk where no number is written. -/
  | scan (visits : Nat := 64)
  /-- REFUSED_KIND (R33): the next taken card, of kind 0 or above 13. -/
  | refusedKind
  /-- APPLICATOR_LOAD (R49): the next taken card, of kind 1. -/
  | applicatorLoad
  /-- COATING_LOAD (R52): the next taken card, of kind 2. -/
  | coatingLoad
  /-- RECIPE_LOAD (R64): the next taken card, of kind 3. -/
  | recipeLoad
  /-- PATH_LOAD (R57): the next taken card, of kind 4. -/
  | pathLoad
  /-- PATCH_SET (R59): the next taken card, of kind 5. -/
  | patchSet
  /-- PATCH_CLEAR (R60): the next taken card, of kind 6. -/
  | patchClear
  /-- OVEN_LOAD (R67): the next taken card, of kind 7. -/
  | ovenLoad
  /-- ADMIT (R2): the next taken card, of kind 8. -/
  | admitCard
  /-- WITHDRAW (R3): the next taken card, of kind 9. -/
  | withdrawCard
  /-- DISPOSE_RELEASE (R161): the next taken card, of kind 10 with action RELEASE. -/
  | disposeRelease
  /-- DISPOSE_SCRAP (R161): the next taken card, of kind 10 with action SCRAP. -/
  | disposeScrap
  /-- DISPOSE_RECOAT (R163): the next taken card, of kind 10 with action RECOAT. -/
  | disposeRecoat
  /-- RECLAIM_MAP (R165): the next taken card, of kind 11. -/
  | reclaimMap
  /-- DECLARE_CLEAR (R174): the next taken card, of kind 12. -/
  | declareClear
  /-- RESUME_CELL (R103): the next taken card, of kind 13. -/
  | resumeCell
  /-- ARRIVAL (R5): the read status and the serial. -/
  | arrival (status : Byte) (serial : Serial)
  /-- MASK_RESULT (R72): the mask index and the value. -/
  | maskResult (index : Byte) (value : Byte)
  /-- MASK_VERIFY_DEADLINE_EXPIRY (R73). -/
  | maskVerifyDeadlineExpiry
  /-- TRANSFER_START (R17): the route whose start conditions hold. -/
  | transferStart (route : Route)
  /-- TRANSFER_DONE (R18): the route code. -/
  | transferDone (code : Byte)
  /-- TRANSFER_FAULT (R19): the route code. -/
  | transferFault (code : Byte)
  /-- TRANSFER_DEADLINE_EXPIRY (R19). -/
  | transferDeadlineExpiry (route : Route)
  /-- SEG_STARTED (R90): the tag and the segment index. -/
  | segStarted (tag : Byte) (index : Half)
  /-- SEG_DONE (R91): the tag and the segment index. -/
  | segDone (tag : Byte) (index : Half)
  /-- MOTION_FAULT (R98): the partner's diagnostic bytes. -/
  | motionFault (diagnostic : List Byte)
  /-- SEGMENT_DEADLINE_EXPIRY (R98). -/
  | segmentDeadlineExpiry
  /-- PRESSURE (R93): the applicator and the pressure in kPa. -/
  | pressure (applicator : Byte) (kPa : Half)
  /-- PRESSURE_SILENCE_DEADLINE_EXPIRY (R94). -/
  | pressureSilenceDeadlineExpiry (applicator : ApplicatorId)
  /-- GUARD (R96): the state code. -/
  | guard (state : Byte)
  /-- FLASH_OFF_DEADLINE_EXPIRY (R127). -/
  | flashOffDeadlineExpiry (tag : Tag)
  /-- OPEN_TIME_DEADLINE_EXPIRY (R128). -/
  | openTimeDeadlineExpiry (tag : Tag)
  /-- ENTRY_SEEN (R133). -/
  | entrySeen
  /-- OVEN_SAMPLE (R138): six zone readings, zone 1 first, and the conveyor count delta. -/
  | ovenSample (readings : Vector Half 6) (delta : Half)
  /-- OVEN_SILENT (R141). -/
  | ovenSilent
  /-- EXIT_SEEN (R143). -/
  | exitSeen
  /-- SLOT_STATE (R156): the slot and the report. -/
  | slotState (slot : Byte) (report : Byte)
  /-- RECOAT_EXPIRED (R164). -/
  | recoatExpired (tag : Tag)
  /-- LINE_TIME_TICK (R25). -/
  | lineTimeTick
  /-- POWER_ON_RESET (R177); with the whole restart where no extent is written. -/
  | powerOnReset (extent : ResetExtent := .restart 96)
  /-- SUPPLY_DIP_RESET (R178). -/
  | supplyDipReset (extent : ResetExtent)
  /-- PIN_RESET (R178); with the whole restart where no extent is written. -/
  | pinReset (extent : ResetExtent := .restart 96)
  /-- FRAME_DISCARDED (R183): the bytes of the frame as received. -/
  | frameDiscarded (port : Port) (bytes : List Byte)
  /-- FRAME_TRANSMIT (R184). -/
  | frameTransmit (port : Port)
  /-- FRAME_ABANDONED (R181): the bytes received before the pause. -/
  | frameAbandoned (port : Port) (bytes : List Byte)
  /-- MISSING_STOP_BIT (R181): the bytes received before the byte that lacks its stop bit. -/
  | missingStopBit (port : Port) (bytes : List Byte)
  deriving DecidableEq, Repr

end Sys2Proof
end

