-- ==== Sys2Proof/Decode.lean ====
section
/-! DEFINITION. The command that a word spells: spec/opcode_table.json gives no row any bits, so no word
spells one. -/

namespace Sys2Proof

/-- The command an `nbits`-bit word `w` spells by the bits of spec/opcode_table.json: none, since no row
has bits. -/
def decodeTableWord (_nbits _w : Nat) : Option Instr := none

end Sys2Proof
end

