-- ==== Sys2Proof/Machine/Types.lean ====
section
/-! DEFINITION. The data that the blocks of the CL-740 hold: named states, table records, board
records, activity entries and field port messages. -/

namespace Sys2Proof.Machine

/-! ### Boards (chapter 1) -/

/-- The stages of a board (R11). -/
inductive Stage where
  | maskCheck
  | waitSpray
  | spraying
  | flashOff
  | curing
  | cooling
  | held
  deriving DecidableEq, Repr, Inhabited

/-- The divert decision (R8, R151). -/
inductive Verdict where
  | none
  | pass
  | hold
  deriving DecidableEq, Repr, Inhabited

/-- Where a held board is (record offsets 14 and 15): a slot, or REMOVED from one. A slot 0-5 is
SPUR 0-5, a slot 6-7 is MASK_LANE 0-1. -/
inductive Location where
  | none
  | slot (n : SlotId)
  | removed
  deriving DecidableEq, Repr, Inhabited

/-- One mask result (R8, R72). -/
inductive MaskResult where
  | unread
  | present
  | absent
  deriving DecidableEq, Repr, Inhabited

/-- The reasons of R12, in bit order. -/
inductive Reason where
  | maskMissing
  | keepOutConflict
  | filmThin
  | filmThick
  | sprayIncomplete
  | openTime
  | undercure
  | overcure
  | scorch
  | cureUnverified
  | trackingMismatch
  | ovenStopped
  | exitOverrun
  | lineCleared
  | resetInterrupted
  deriving DecidableEq, Repr, Inhabited

/-- A board record (section 1.3). The tag is the record's place in the table; an absent field is
`none`. `written` is clear while the record is as a POWER_ON reset left it, every byte zero (R10).
`seed` is the model's own: it names the free values that the bytes of absent times read as. -/
structure BoardRecord where
  written : Bool
  valid : Bool
  stage : Stage
  pass : Nat
  serial : Serial
  recipe : RecipeId
  verdict : Verdict
  location : Location
  reasons : Word
  mapFrame : Option FrameId
  recoatOpen : Bool
  lastSegment : Option Nat
  maskResults : Vector MaskResult 8
  admittedTime : Option Time
  sprayStart : Option Time
  sprayEnd : Option Time
  ovenEntry : Option Time
  ovenExit : Option Time
  heldTime : Option Time
  recoatDeadline : Option Time
  dose : Nat
  position : Nat
  conflicts : Nat
  firstConflict : Option Nat
  thinCells : Nat
  thickCells : Nat
  firstFailing : Option (Nat × Nat)
  seed : Nat
  deriving DecidableEq, Repr, Inhabited

/-- An entry of the admission list (R1). -/
structure Admission where
  serial : Serial
  recipe : RecipeId
  pass : Nat
  frame : Option FrameId
  deriving DecidableEq, Repr, Inhabited

/-- A tag in a position list, with its in-transit mark (R13). -/
structure Place where
  tag : Tag
  inTransit : Bool
  deriving DecidableEq, Repr, Inhabited

/-- The state of a transfer route (R15), with the deadline and slot operand of the transfer in
flight (R17). -/
inductive RouteState where
  | idle
  | inFlight (deadline : Time) (slot : Nat)
  | faulted
  deriving DecidableEq, Repr, Inhabited

/-- The flash-off items of a board between its path end and its oven entry (R125). -/
structure FlashItems where
  flashDeadline : Option Time
  done : Bool
  openDeadline : Option Time
  deriving DecidableEq, Repr, Inhabited

/-- Why an arrival is refused (R5). -/
inductive ArrivalCause where
  | notReady
  | noRead
  | unknownSerial
  deriving DecidableEq, Repr, Inhabited

/-! ### Exchange memory, cards and registers (chapter 2) -/

/-- The state of a card directory entry (R27). -/
inductive CardState where
  | free
  | posted
  | taken
  | done
  deriving DecidableEq, Repr, Inhabited

/-- A card directory entry: state byte and status copy; bytes 2 and 3 are zero (R27). -/
structure DirectoryEntry where
  state : CardState
  status : Byte
  deriving DecidableEq, Repr, Inhabited

/-- A taken card as the Card Processor read it at the take (R30, R32): the header fields and as many
body bytes as the body length gives. -/
structure TakenCard where
  index : CardId
  kind : Byte
  hostTag : Word
  bodyLength : Half
  body : List Byte
  deriving DecidableEq, Repr, Inhabited

/-- The status codes of R35. -/
inductive Status where
  | ok
  | refusedKind
  | refusedRange
  | refusedUnknown
  | refusedInUse
  | refusedBusy
  | refusedFull
  | refusedDuplicate
  | refusedSequence
  | refusedState
  | refusedTooLate
  | refusedLocked
  | abortedByReset
  deriving DecidableEq, Repr, Inhabited

/-- A card's result: the status and the leading detail words; the others are zero (R34). -/
structure CardResult where
  status : Status
  details : List Word
  deriving DecidableEq, Repr, Inhabited

/-- The line modes (R41, R167). -/
inductive LineMode where
  | lost
  | run
  | freeze
  | drain
  | ready
  | faulted
  deriving DecidableEq, Repr, Inhabited

/-- The faults of R171. -/
inductive FaultCode where
  | transfer
  | unknownAtEntry
  | unknownAtExit
  | exitOverrun
  deriving DecidableEq, Repr, Inhabited

/-- The reset kinds (R175). -/
inductive ResetKind where
  | powerOn
  | supplyDip
  | pin
  deriving DecidableEq, Repr, Inhabited

/-- Whether the part runs, is held in reset, or is in the restart that follows (R175). -/
inductive StartState where
  /-- The restart is complete: host accesses are served. -/
  | running
  /-- Held in reset by a cause that is still present; the kind as determined so far. -/
  | held (kind : ResetKind)
  /-- The restart is in progress: it has visited the first `visits` cards and board records. -/
  | restarting (visits : Nat)
  deriving DecidableEq, Repr, Inhabited

/-! ### Line tables (chapter 3) -/

/-- Applicator kinds (R48). -/
inductive ApplicatorKind where
  | needle
  | film
  | atomize
  | jet
  deriving DecidableEq, Repr, Inhabited

/-- Monitor modes (R48). -/
inductive MonitorMode where
  | warn
  | interlock
  deriving DecidableEq, Repr, Inhabited

/-- An applicator record (R48). -/
structure Applicator where
  kind : ApplicatorKind
  flow : Nat
  nominal : Nat
  efficiency : Nat
  slotMask : Byte
  bandLow : Nat
  bandHigh : Nat
  mode : MonitorMode
  deriving DecidableEq, Repr, Inhabited

/-- An entry of the applicator table: empty or loaded, and the INTERLOCK lock (R45, R50). -/
structure ApplicatorEntry where
  record : Option Applicator
  lock : Bool
  deriving DecidableEq, Repr, Inhabited

/-- A cure band (R51). -/
structure CureBand where
  bound : Nat
  weight : Nat
  deriving DecidableEq, Repr, Inhabited

/-- A coating record (R51). -/
structure Coating where
  solids : Nat
  flashMin : Nat
  openMax : Nat
  scorch : Nat
  doseMin : Nat
  doseMax : Nat
  recoatWindow : Nat
  bands : Vector CureBand 8
  deriving DecidableEq, Repr, Inhabited

/-- The direction of a PASS (R54). -/
inductive Direction where
  | plusX
  | minusX
  | plusY
  | minusY
  deriving DecidableEq, Repr, Inhabited

/-- A segment record (R54): each kind holds the fields it uses; every other field is zero. -/
inductive Segment where
  | pass (applicator : ApplicatorId) (direction : Direction) (column row length width trim speed : Nat)
  | move (column row speed : Nat)
  | dwell (applicator : ApplicatorId) (column row width trim dwell : Nat)
  deriving DecidableEq, Repr, Inhabited

/-- The state of a path program (R53). -/
inductive ProgramState where
  | empty
  | building
  | complete
  deriving DecidableEq, Repr, Inhabited

/-- A path program with its segments in order and its last accepted chunk number (R45, R53). -/
structure Program where
  state : ProgramState
  segments : List Segment
  lastChunk : Option Nat
  deriving DecidableEq, Repr, Inhabited

/-- An occupied patch entry (R59). -/
structure Patch where
  program : ProgramId
  index : Nat
  segment : Segment
  enabled : Bool
  deriving DecidableEq, Repr, Inhabited

/-- Zone classes (R63). -/
inductive ZoneClass where
  | keepOut
  | masked
  | thin
  | coat
  deriving DecidableEq, Repr, Inhabited

/-- A zone: a class over the cells of columns col0-col1 and rows row0-row1 (R63). -/
structure Zone where
  cls : ZoneClass
  col0 : Nat
  row0 : Nat
  col1 : Nat
  row1 : Nat
  deriving DecidableEq, Repr, Inhabited

/-- Mask policies (R62, R74). -/
inductive MaskPolicy where
  | reject
  | sprayAround
  deriving DecidableEq, Repr, Inhabited

/-- Conflict policies (R62, R87). -/
inductive ConflictPolicy where
  | dryRun
  | stopBoard
  deriving DecidableEq, Repr, Inhabited

/-- A recipe record (R62, R63). -/
structure Recipe where
  columns : Nat
  rows : Nat
  program : ProgramId
  coating : CoatingId
  maskPolicy : MaskPolicy
  conflictPolicy : ConflictPolicy
  recoatLimit : Nat
  verifyTimeout : Nat
  coatMin : Nat
  coatMax : Nat
  thinMin : Nat
  thinMax : Nat
  zones : List Zone
  deriving DecidableEq, Repr, Inhabited

/-- The oven table (R67). -/
structure OvenTable where
  lengths : Vector Nat 6
  tolerance : Nat
  spacing : Nat
  deriving DecidableEq, Repr, Inhabited

/-! ### Mask verification and effective class (chapter 4) -/

/-- Effective classes of a grid cell (R68). -/
inductive CellClass where
  | free
  | coat
  | thin
  | masked
  | keepOut
  deriving DecidableEq, Repr, Inhabited

/-- The outcome held by the Mask Verifier (R70). -/
inductive MaskOutcome where
  | none
  | pass
  | reject
  deriving DecidableEq, Repr, Inhabited

/-- The verification state, with the items held in VERIFYING (R70). -/
inductive Verification where
  | idle
  | verifying (tag : Tag) (count : Nat) (deadline : Time)
  deriving DecidableEq, Repr, Inhabited

/-! ### Spray cell (chapter 5) -/

/-- Spray cell states (R82). -/
inductive CellState where
  | idle
  | loading
  | running
  | paused
  | interlocked
  | stopped
  | unloading
  deriving DecidableEq, Repr, Inhabited

/-- Stop causes (R82). -/
inductive StopCause where
  | guard
  | motion
  | pressure
  deriving DecidableEq, Repr, Inhabited

/-- Segment phases (R82). -/
inductive Phase where
  | none
  | waiting
  | sent
  | started
  deriving DecidableEq, Repr, Inhabited

/-- The held segment: the record as fetched, and its dry-run flag (R82). -/
structure HeldSegment where
  record : Segment
  dryRun : Bool
  deriving DecidableEq, Repr, Inhabited

/-- The spray-cell guard (R82). -/
inductive GuardState where
  | opened
  | closed
  deriving DecidableEq, Repr, Inhabited

/-- Pressure monitor states (R82). -/
inductive PressureState where
  | unknown
  | inBand
  | low
  | high
  deriving DecidableEq, Repr, Inhabited

/-- One pressure monitor (R82). The sample sum is held in 48 bits and the count in 32 (R118). -/
structure Monitor where
  state : PressureState
  lastSample : Option Nat
  silence : Option Time
  sum : BitVec 48
  count : BitVec 32
  deriving DecidableEq, Repr, Inhabited

/-- How a path ends (R104). -/
inductive PathEnd where
  | complete
  | stopBoard
  | resumeCell
  deriving DecidableEq, Repr, Inhabited

/-! ### Coverage maps (chapter 6) -/

/-- Map frame states (R108). -/
inductive FrameState where
  | free
  | active
  | retained
  | reserved
  deriving DecidableEq, Repr, Inhabited

/-- A frame table entry (R108). -/
structure FrameEntry where
  state : FrameState
  owner : Option Tag
  pass : Option Nat
  deriving DecidableEq, Repr, Inhabited

/-- Why a map was reclaimed (R38, MAP_RECLAIMED). -/
inductive ReclaimCause where
  | sprayStart
  | reclaimMap
  deriving DecidableEq, Repr, Inhabited

/-! ### Oven (chapters 7 and 8) -/

/-- The entry gate (R131). -/
inductive GateState where
  | opened
  | closed
  deriving DecidableEq, Repr, Inhabited

/-- One zone value (R136). -/
structure ZoneValue where
  value : Nat
  stale : Nat
  verified : Bool
  deriving DecidableEq, Repr, Inhabited

/-- The sampling state (R136). -/
inductive Sampling where
  | receiving
  | silent
  deriving DecidableEq, Repr, Inhabited

/-! ### Holds (chapter 9) -/

/-- The state of a hold slot (R150). -/
inductive SlotState where
  | free
  | reserved (tag : Tag)
  | assigned (tag : Tag)
  | foreign
  deriving DecidableEq, Repr, Inhabited

/-- DISPOSE actions (R160). -/
inductive Action where
  | release
  | scrap
  | recoat
  deriving DecidableEq, Repr, Inhabited

/-! ### Activity entries (R38) -/

/-- What an activity entry reports: one constructor for each kind of R38. -/
inductive Activity where
  | cardDone (card : CardId) (kind : Byte) (status : Status) (hostTag : Word)
  | boardAdmitted (tag : Tag) (serial : Serial) (pass : Nat)
  | arrivalRefused (cause : ArrivalCause) (serial : Serial)
  | maskDone (tag : Tag) (outcome : MaskOutcome) (results : Vector MaskResult 8)
  | segmentConflict (tag : Tag) (index : Nat) (policy : ConflictPolicy) (column row : Nat)
  | cellState (tag : Option Tag) (new previous : CellState) (cause : Option StopCause)
  | pressure (applicator : ApplicatorId) (new previous : PressureState) (sample : Nat)
  | pathDone (tag : Tag) (fetched : Nat) (ended : PathEnd) (thin thick : Nat)
  | ovenEntered (tag : Tag) (boards : Nat)
  | zoneState (zone : Fin 6) (verified : Bool) (value : Nat)
  | ovenSilent (boards : Nat)
  | ovenExited (tag : Tag) (dose position cool : Nat)
  | boardPassed (tag : Tag) (serial : Serial)
  | boardHeld (tag : Tag) (location : Location) (reasons : Word)
  | slotState (slot : SlotId) (new previous : SlotState) (tag : Option Tag)
  | recoatExpired (tag : Tag) (serial : Serial)
  | mapReclaimed (frame : FrameId) (owner : Tag) (cause : ReclaimCause)
  | lineMode (new previous : LineMode) (reset : Option ResetKind)
  | fault (code : FaultCode) (first : Bool) (route : Option Route) (tag : Option Tag) (cause : Nat)
  deriving DecidableEq, Repr

/-! ### Field port messages and receivers (chapter 11) -/

/-- The messages the CL-740 sends (section 11.3). -/
inductive Message where
  /-- SEG_RUN; `head` is the applicator's kind, sent for a PASS or DWELL. -/
  | segRun (tag : Tag) (index : Nat) (segment : Segment) (dryRun : Bool) (head : ApplicatorKind)
  | halt
  | valveOpen (applicator : ApplicatorId) (slotMask : Byte)
  | valveClose (applicator : ApplicatorId)
  | loaderReady (level : Bool)
  | inspect (count : Nat)
  | transfer (route : Route) (slot : Nat)
  | entryGate (state : GateState)
  | ovenStop (asserted : Bool)
  deriving DecidableEq, Repr

/-- A received frame that has passed its check (R181, R182): kind and payload. -/
structure Frame where
  kind : Byte
  payload : List Byte
  deriving DecidableEq, Repr, Inhabited

/-- The framing state of a receiver, with the part of the frame it has stored (R181). -/
inductive Receiver where
  | awaitKind
  | awaitLength (kind : Byte)
  | payload (kind length : Byte) (got : List Byte)
  | awaitCheck (kind length : Byte) (got : List Byte)
  | discarding
  deriving DecidableEq, Repr, Inhabited

/-- One field port: its receiver, the frames that wait in its transmitter in issue order (R184), and the
levels its transmitter last put on the line, bit time by bit time, `true` for high (R180; the model's own
record of the output, DESIGN CHOICE, notes/assumptions/13.md). -/
structure PortState where
  receiver : Receiver
  waiting : List Message
  line : List Bool
  deriving DecidableEq, Repr

end Sys2Proof.Machine
end

