-- ==== Sys2Proof/Config.lean ====
section
/-! DEFINITION. What the CL-740 fixes once for all (sizes, periods and codes of the spec), and the
free values: opaque constants with no body, for what the spec leaves open. -/

namespace Sys2Proof.Config

/-! ### Constants of the spec -/

/-- The ID register: part code 0x0740, layout version 1 (R41). -/
abbrev identity : Word := 0x00010740

/-- The byte size of exchange memory, 128 KiB (R22). -/
abbrev memoryBytes : Nat := 0x20000

/-- The admission list holds up to 16 entries (R1). -/
abbrev admissionCapacity : Nat := 16

/-- The largest card body (R32). -/
abbrev maxBody : Nat := 976

/-- Segment places of the path store (R45). -/
abbrev segmentPlaces : Nat := 4096

/-- The longest program (R58). -/
abbrev maxProgram : Nat := 512

/-- The transfer deadline, ms (R17). -/
abbrev transferTime : Time := 5000

/-- The pressure silence time, ms (R93). -/
abbrev pressureSilence : Time := 1000

/-- The oven silence time, ms (R138). -/
abbrev ovenSilence : Time := 2000

/-- The oven list's capacity (R137). -/
abbrev ovenCapacity : Nat := 12

/-- The frames that wait in a transmitter at most (R184). -/
abbrev transmitCapacity : Nat := 32

/-- A film thickness saturates here (R119, R120). -/
abbrev maxFilm : Nat := 4095

/-! ### Free values

Beside the first, each stands for a lookup that no run makes (DESIGN CHOICE, notes/assumptions/8.md). -/

/-- FREE VALUE: the four bytes that an absent time field of a board record reads as. The spec says
that the times-present set tells which time fields hold a time, and states no content for the
others. `seed` differs for each record created, `field` is 0 for the admitted time to 6 for the
recoat deadline (DESIGN CHOICE, notes/assumptions/7.md). -/
opaque absentTime : (seed field : Nat) → Time

/-- FREE VALUE: what a lookup of an empty recipe entry gives. No run reaches such a lookup (R46). -/
opaque emptyRecipe : Machine.Recipe

/-- FREE VALUE: what a lookup of an empty coating entry gives. No run reaches such a lookup (R46). -/
opaque emptyCoating : Machine.Coating

/-- FREE VALUE: what a lookup of an empty applicator entry gives. No run reaches such a lookup. -/
opaque emptyApplicator : Machine.Applicator

/-- FREE VALUE: what a lookup of the oven table gives while none is loaded. No run reaches such a
lookup (R131, R67). -/
opaque emptyOven : Machine.OvenTable

/-- FREE VALUE: what a fetch beyond a program's end gives. No run reaches such a fetch (R91). -/
opaque missingSegment : Machine.Segment

/-- FREE VALUE: the sample sum after a sample that its 48 bits cannot hold. R118 says that no segment fills it
and states no value (DESIGN CHOICE, notes/assumptions/21.md). -/
opaque overfullSum : (sum : BitVec 48) → (sample : Nat) → BitVec 48

/-- FREE VALUE: the sample count after a sample that its 32 bits cannot hold (R118; DESIGN CHOICE,
notes/assumptions/21.md). -/
opaque overfullCount : BitVec 32

/-- FREE VALUE: the frame evaluated for a board whose record names none. No run reaches it (R109). -/
opaque missingFrame : FrameId

end Sys2Proof.Config
end

