-- ==== Sys2Proof/Machine/Bytes.lean ====
section
/-! DEFINITION. Byte order, sparse memory, and the codes under which named values stand in exchange
memory, in registers and in frames. -/

namespace Sys2Proof.Machine

/-! ### Byte order: least significant byte first (00_scope.md) -/

/-- A count as one byte. -/
def byte (n : Nat) : Byte := BitVec.ofNat 8 n

/-- A count as one word. -/
def word (n : Nat) : Word := BitVec.ofNat 32 n

/-- The two bytes of a 16-bit field. -/
def le16 (n : Nat) : List Byte := [byte n, byte (n / 256)]

/-- The four bytes of a word. -/
def le32 (w : Word) : List Byte :=
  [w.extractLsb' 0 8, w.extractLsb' 8 8, w.extractLsb' 16 8, w.extractLsb' 24 8]

/-- The eight bytes of a serial. -/
def le64 (w : Serial) : List Byte := le32 (w.extractLsb' 0 32) ++ le32 (w.extractLsb' 32 32)

/-- The number spelt by bytes, least significant first. -/
def ofLe : List Byte → Nat
  | [] => 0
  | b :: bs => b.toNat + 256 * ofLe bs

/-- The first `n` bytes of a list, with zero bytes after its end. -/
def padTo : Nat → List Byte → List Byte
  | 0, _ => []
  | n + 1, [] => 0 :: padTo n []
  | n + 1, b :: bs => b :: padTo n bs

/-- A Boolean as a byte, 1 or 0. -/
def flag (b : Bool) : Byte := if b then 1 else 0

/-! ### Sparse memory -/

/-- Bytes by byte offset, in one canonical form: offsets strictly rising, no zero byte listed. An
offset that is not listed reads 0, as a POWER_ON reset leaves all of exchange memory (R177). -/
abbrev Memory := List Host.Cell

/-- The canonical form. -/
abbrev Memory.wf (m : Memory) : Prop :=
  m.Pairwise (fun c d => c.1 < d.1) ∧ ∀ c ∈ m, c.2 ≠ 0

/-- The byte at an offset. -/
def Memory.read : Memory → Nat → Byte
  | [], _ => 0
  | (a, b) :: m, x => if x = a then b else Memory.read m x

/-- Memory with one byte replaced. -/
def Memory.write : Memory → Nat → Byte → Memory
  | [], x, v => if v = 0 then [] else [(x, v)]
  | (a, b) :: m, x, v =>
    if x < a then (if v = 0 then (a, b) :: m else (x, v) :: (a, b) :: m)
    else if x = a then (if v = 0 then m else (x, v) :: m)
    else (a, b) :: Memory.write m x v

/-- Memory with consecutive bytes replaced. -/
def Memory.writeBytes (m : Memory) (base : Nat) : List Byte → Memory
  | [] => m
  | b :: bs => Memory.writeBytes (m.write base b) (base + 1) bs

/-- Consecutive bytes of memory. -/
def Memory.readBytes (m : Memory) (base : Nat) : Nat → List Byte
  | 0 => []
  | n + 1 => m.read base :: Memory.readBytes m (base + 1) n

/-- Memory with every byte whose offset satisfies `p` written 0. -/
def Memory.clearWhere (m : Memory) (p : Nat → Bool) : Memory := m.filter fun c => !p c.1

/-! ### Codes (R8, R27, R35, R38, R41, section 11.3) -/

def Stage.code : Stage → Nat
  | .maskCheck => 1
  | .waitSpray => 2
  | .spraying => 3
  | .flashOff => 4
  | .curing => 5
  | .cooling => 6
  | .held => 7

/-- The transport stages (R11): every stage but HELD. -/
def Stage.transport : Stage → Bool
  | .held => false
  | _ => true

def Verdict.code : Verdict → Nat
  | .none => 0
  | .pass => 1
  | .hold => 2

/-- Location kind: 0 NONE, 1 MASK_LANE, 2 SPUR, 3 REMOVED (R8). -/
def Location.kindCode : Location → Nat
  | .none => 0
  | .slot n => if n.val < 6 then 2 else 1
  | .removed => 3

/-- Location slot: 0-5 for SPUR, 0-1 for MASK_LANE, 0 otherwise (R8). -/
def Location.slotCode : Location → Nat
  | .slot n => if n.val < 6 then n.val else n.val - 6
  | _ => 0

def MaskResult.code : MaskResult → Nat
  | .unread => 0
  | .present => 1
  | .absent => 2

/-- The bit of a reason in the reason set (R12). -/
def Reason.bit : Reason → Nat
  | .maskMissing => 0
  | .keepOutConflict => 1
  | .filmThin => 2
  | .filmThick => 3
  | .sprayIncomplete => 4
  | .openTime => 5
  | .undercure => 6
  | .overcure => 7
  | .scorch => 8
  | .cureUnverified => 9
  | .trackingMismatch => 10
  | .ovenStopped => 11
  | .exitOverrun => 12
  | .lineCleared => 13
  | .resetInterrupted => 14

/-- The reason set that holds one reason. -/
def Reason.mask (r : Reason) : Word := 1#32 <<< r.bit

def CardState.code : CardState → Nat
  | .free => 0
  | .posted => 1
  | .taken => 2
  | .done => 3

def Status.code : Status → Nat
  | .ok => 0
  | .refusedKind => 1
  | .refusedRange => 2
  | .refusedUnknown => 3
  | .refusedInUse => 4
  | .refusedBusy => 5
  | .refusedFull => 6
  | .refusedDuplicate => 7
  | .refusedSequence => 8
  | .refusedState => 9
  | .refusedTooLate => 10
  | .refusedLocked => 11
  | .abortedByReset => 12

def LineMode.code : LineMode → Nat
  | .lost => 0
  | .run => 1
  | .freeze => 2
  | .drain => 3
  | .ready => 4
  | .faulted => 5

def FaultCode.code : FaultCode → Nat
  | .transfer => 1
  | .unknownAtEntry => 2
  | .unknownAtExit => 3
  | .exitOverrun => 4

/-- The first fault cause byte of LINE_CTL: 0 for none (R41). -/
def faultByte : Option FaultCode → Nat
  | none => 0
  | some c => c.code

def ResetKind.code : ResetKind → Nat
  | .powerOn => 1
  | .supplyDip => 2
  | .pin => 3

def ApplicatorKind.code : ApplicatorKind → Nat
  | .needle => 1
  | .film => 2
  | .atomize => 3
  | .jet => 4

def Direction.code : Direction → Nat
  | .plusX => 1
  | .minusX => 2
  | .plusY => 3
  | .minusY => 4

def ProgramState.code : ProgramState → Nat
  | .empty => 0
  | .building => 1
  | .complete => 2

def ConflictPolicy.code : ConflictPolicy → Nat
  | .dryRun => 1
  | .stopBoard => 2

/-- The order of effective classes, KEEP_OUT highest (R68). -/
def CellClass.rank : CellClass → Nat
  | .free => 0
  | .coat => 1
  | .thin => 2
  | .masked => 3
  | .keepOut => 4

def MaskOutcome.code : MaskOutcome → Nat
  | .none => 0
  | .pass => 1
  | .reject => 2

def CellState.code : CellState → Nat
  | .idle => 0
  | .loading => 1
  | .running => 2
  | .paused => 3
  | .interlocked => 4
  | .stopped => 5
  | .unloading => 6

/-- Stop cause byte: 0 for none (R38). -/
def stopCauseByte : Option StopCause → Nat
  | none => 0
  | some .guard => 1
  | some .motion => 2
  | some .pressure => 3

def PressureState.code : PressureState → Nat
  | .unknown => 0
  | .inBand => 1
  | .low => 2
  | .high => 3

def PathEnd.code : PathEnd → Nat
  | .complete => 1
  | .stopBoard => 2
  | .resumeCell => 3

def FrameState.code : FrameState → Nat
  | .free => 0
  | .active => 1
  | .retained => 2
  | .reserved => 3

def ReclaimCause.code : ReclaimCause → Nat
  | .sprayStart => 1
  | .reclaimMap => 2

def GateState.code : GateState → Nat
  | .opened => 1
  | .closed => 2

def SlotState.code : SlotState → Nat
  | .free => 0
  | .reserved _ => 1
  | .assigned _ => 2
  | .foreign => 3

/-- The tag a slot carries, in RESERVED and ASSIGNED (R150). -/
def SlotState.tag : SlotState → Option Tag
  | .reserved t => some t
  | .assigned t => some t
  | _ => none

def Action.code : Action → Nat
  | .release => 1
  | .scrap => 2
  | .recoat => 3

def ArrivalCause.code : ArrivalCause → Nat
  | .notReady => 1
  | .noRead => 2
  | .unknownSerial => 3

/-- The route codes of R15. -/
def routeCode : Route → Nat
  | .maskToInfeed => 1
  | .maskToLane => 2
  | .infeedToCell => 3
  | .cellToFlash => 4
  | .coolToExit => 5
  | .coolToSpur => 6

/-- The route a code names; none outside 1-6 (R20). -/
def routeOfCode (b : Byte) : Option Route :=
  match b.toNat with
  | 1 => some .maskToInfeed
  | 2 => some .maskToLane
  | 3 => some .infeedToCell
  | 4 => some .cellToFlash
  | 5 => some .coolToExit
  | 6 => some .coolToSpur
  | _ => none

/-- A tag byte, 0xFF where absent. -/
def tagByte : Option Tag → Byte
  | none => 0xFF
  | some t => byte t.val

/-- A frame number byte, 0xFF where absent. -/
def frameByte : Option FrameId → Byte
  | none => 0xFF
  | some f => byte f.val

/-- A 16-bit index, 0xFFFF where absent. -/
def indexBytes : Option Nat → List Byte
  | none => [0xFF, 0xFF]
  | some n => le16 n

/-- A detail word that names a number, 0xFFFFFFFF where there is none. -/
def wordOrNone : Option Nat → Word
  | none => 0xFFFFFFFF
  | some n => word n

/-! ### Activity entries as bytes (R37, R38) -/

/-- The kind code. -/
def Activity.kindCode : Activity → Nat
  | .cardDone .. => 1
  | .boardAdmitted .. => 2
  | .arrivalRefused .. => 3
  | .maskDone .. => 4
  | .segmentConflict .. => 5
  | .cellState .. => 6
  | .pressure .. => 7
  | .pathDone .. => 8
  | .ovenEntered .. => 9
  | .zoneState .. => 10
  | .ovenSilent .. => 11
  | .ovenExited .. => 12
  | .boardPassed .. => 13
  | .boardHeld .. => 14
  | .slotState .. => 15
  | .recoatExpired .. => 16
  | .mapReclaimed .. => 17
  | .lineMode .. => 18
  | .fault .. => 19

/-- The source block code. -/
def Activity.source : Activity → Nat
  | .cardDone .. => 1
  | .boardAdmitted .. => 3
  | .arrivalRefused .. => 3
  | .maskDone .. => 4
  | .segmentConflict .. => 5
  | .cellState .. => 5
  | .pressure .. => 5
  | .pathDone .. => 5
  | .ovenEntered .. => 7
  | .zoneState .. => 7
  | .ovenSilent .. => 7
  | .ovenExited .. => 7
  | .boardPassed .. => 8
  | .boardHeld .. => 8
  | .slotState .. => 8
  | .recoatExpired .. => 8
  | .mapReclaimed .. => 6
  | .lineMode .. => 9
  | .fault .. => 9

/-- The tag-or-index byte. -/
def Activity.index : Activity → Byte
  | .cardDone card .. => byte card.val
  | .boardAdmitted tag .. => byte tag.val
  | .arrivalRefused cause _ => byte cause.code
  | .maskDone tag .. => byte tag.val
  | .segmentConflict tag .. => byte tag.val
  | .cellState tag .. => tagByte tag
  | .pressure applicator .. => byte applicator.val
  | .pathDone tag .. => byte tag.val
  | .ovenEntered tag _ => byte tag.val
  | .zoneState zone .. => byte (zone.val + 1)
  | .ovenSilent _ => 0xFF
  | .ovenExited tag .. => byte tag.val
  | .boardPassed tag _ => byte tag.val
  | .boardHeld tag .. => byte tag.val
  | .slotState slot .. => byte slot.val
  | .recoatExpired tag _ => byte tag.val
  | .mapReclaimed frame .. => byte frame.val
  | .lineMode new .. => byte new.code
  | .fault code .. => byte code.code

/-- The leading detail bytes; the others are zero. -/
def Activity.detail : Activity → List Byte
  | .cardDone _ kind status hostTag => [kind, byte status.code] ++ le32 hostTag
  | .boardAdmitted _ serial pass => le64 serial ++ [byte pass]
  | .arrivalRefused _ serial => le64 serial
  | .maskDone _ outcome results => byte outcome.code :: results.toList.map fun r => byte r.code
  | .segmentConflict _ index policy column row =>
    le16 index ++ [byte policy.code, byte column, byte row]
  | .cellState _ new previous cause => [byte new.code, byte previous.code, byte (stopCauseByte cause)]
  | .pressure _ new previous sample => [byte new.code, byte previous.code] ++ le16 sample
  | .pathDone _ fetched ended thin thick => le16 fetched ++ [byte ended.code] ++ le16 thin ++ le16 thick
  | .ovenEntered _ boards => [byte boards]
  | .zoneState _ verified value => [if verified then 1 else 2] ++ le16 value
  | .ovenSilent boards => [byte boards]
  | .ovenExited _ dose position cool => le16 dose ++ le16 position ++ [byte cool]
  | .boardPassed _ serial => le64 serial
  | .boardHeld _ location reasons => [byte location.kindCode, byte location.slotCode] ++ le32 reasons
  | .slotState _ new previous tag => [byte new.code, byte previous.code, tagByte tag]
  | .recoatExpired _ serial => le64 serial
  | .mapReclaimed _ owner cause => [byte owner.val, byte cause.code]
  | .lineMode _ previous reset =>
    [byte previous.code, match reset with | none => 0 | some k => byte k.code]
  | .fault _ first route tag cause =>
    [flag first, match route with | none => 0 | some r => byte (routeCode r), tagByte tag, byte cause]

/-- The 16 bytes of an entry appended at line time `now` (R37). -/
def Activity.bytes (e : Activity) (now : Time) : List Byte :=
  [byte e.kindCode, byte e.source, e.index] ++ padTo 9 e.detail ++ le32 now

end Sys2Proof.Machine
end

