-- ==== Sys2Proof/Machine/State.lean ====
section
/-! DEFINITION. The state of the CL-740, block by block, and the state right after a POWER_ON reset. -/

namespace Sys2Proof.Machine

/-- Why the machine stops with a fault. The rules give every command an effect in every state, so no
command raises one (notes/assumptions/25.md). -/
inductive Fault where
  deriving DecidableEq, Repr

/-- Why a command has no meaning. -/
inductive Refusal where
  /-- Raised by `exec` for a command of the table that has no meaning in this model yet (none has
  this answer); safe. -/
  | notModelled (mnemonic : String)
  deriving DecidableEq, Repr

/-- The Exchange Memory Controller: attention registers, scan-pending flag, activity write index, card
directory, and the bytes of exchange memory that no other block's state determines: the host header,
the activity list, the cards and the map frames (R22-R44; DEDUCED, notes/assumptions/5.md). -/
structure Exchange where
  /-- ATTN: bit 0 ACTIVITY, 1 OVERFLOW, 2 REFUSED, 3 FAULT, 4 RESTART (R42). -/
  attn : BitVec 5
  /-- ATTN_EN (R43). -/
  attnEn : BitVec 5
  /-- START_STATUS: bit 0 POWER_ON, 1 SUPPLY_DIP, 2 PIN (R44). -/
  startStatus : BitVec 3
  /-- The scan-pending flag (R29). -/
  scanPending : Bool
  /-- The activity write index (R37). -/
  writeIndex : Byte
  /-- The card directory (R27). -/
  directory : Vector DirectoryEntry 64
  /-- Exchange memory bytes. -/
  mem : Memory
  deriving DecidableEq, Repr

/-- The Card Processor (R29, R30): the cards taken in the present scan that wait their turn, the next one
first, and the entry that the walk visits next; it is idle when there is neither. -/
structure CardProcessor where
  taken : List TakenCard
  visiting : Option CardId
  deriving DecidableEq, Repr

/-- The Table Store (R45). -/
structure Tables where
  applicators : Vector ApplicatorEntry 4
  coatings : Vector (Option Coating) 4
  recipes : Vector (Option Recipe) 16
  programs : Vector Program 16
  patches : Vector (Option Patch) 4
  oven : Option OvenTable
  deriving DecidableEq, Repr

/-- The Board Tracker: admission list, board table, the five position lists, the routes, the
loader-ready level and the flash-off items (R1, R4, R7, R13, R15, R125). -/
structure Tracker where
  admissions : List Admission
  boards : Vector BoardRecord 32
  mask : List Place
  infeed : List Place
  cell : List Place
  flashOff : List Place
  cool : List Place
  maskToInfeed : RouteState
  maskToLane : RouteState
  infeedToCell : RouteState
  cellToFlash : RouteState
  coolToExit : RouteState
  coolToSpur : RouteState
  loaderReady : Bool
  flash : Vector (Option FlashItems) 32
  deriving DecidableEq, Repr

/-- The Mask Verifier (R70). -/
structure Verifier where
  verification : Verification
  outcome : MaskOutcome
  deriving DecidableEq, Repr

/-- The Spray Sequencer (R82). The cell board is the tag in the Board Tracker's spray cell list. -/
structure Sequencer where
  cell : CellState
  stopCause : Option StopCause
  stopApplicator : Option ApplicatorId
  index : Nat
  segment : Option HeldSegment
  phase : Phase
  deadline : Option Time
  valve : Option ApplicatorId
  valveStart : Option Time
  /-- The pre-start sample noted at SEG_STARTED (R90). -/
  preStart : Option Nat
  guard : GuardState
  monitors : Vector Monitor 4
  deriving DecidableEq, Repr

/-- The Coverage Unit's frame table (R108); the cells lie in exchange memory. -/
structure Coverage where
  frames : Vector FrameEntry 8
  deriving DecidableEq, Repr

/-- The Cure Tracker (R136). -/
structure Cure where
  oven : List Tag
  zones : Vector ZoneValue 6
  sampling : Sampling
  silence : Option Time
  spacing : Nat
  gate : GateState
  ovenStop : Bool
  deriving DecidableEq, Repr

/-- The Hold Manager (R150): the slots, and the hold order as the boards kept across the last reset
followed by the boards held since (R158, R179). The recoat watch is the recoat open flag and the
recoat deadline of each valid record. -/
structure Holds where
  slots : Vector SlotState 8
  kept : List Tag
  since : List Tag
  deriving DecidableEq, Repr

/-- The Line Mode Controller (R167), beside the start-up that it runs after each reset. The oven-stop flag follows
the Cure Tracker's output. -/
structure LineControl where
  mode : LineMode
  firstFault : Option FaultCode
  deriving DecidableEq, Repr

/-- The four Field Port Controllers (R180). -/
structure Ports where
  motion : PortState
  fluid : PortState
  station : PortState
  oven : PortState
  deriving DecidableEq, Repr

/-- The state of the CL-740, and the queue of the commands that wait. -/
structure State where
  pending : List Instr
  /-- Line time (Line Time Base). -/
  lineTime : Time
  exchange : Exchange
  cards : CardProcessor
  tables : Tables
  tracker : Tracker
  verifier : Verifier
  sequencer : Sequencer
  coverage : Coverage
  cure : Cure
  holds : Holds
  line : LineControl
  ports : Ports
  /-- Whether the part runs, is held in reset, or restarts (R175). -/
  start : StartState
  /-- The model's own counter: how many free values have been handed out. -/
  freeCount : Nat
  deriving DecidableEq, Repr

/-- A board record as a POWER_ON reset leaves it (R10). -/
def BoardRecord.blank : BoardRecord where
  written := false
  valid := false
  stage := .maskCheck
  pass := 0
  serial := 0
  recipe := 0
  verdict := .none
  location := .none
  reasons := 0
  mapFrame := none
  recoatOpen := false
  lastSegment := none
  maskResults := Vector.replicate 8 .unread
  admittedTime := none
  sprayStart := none
  sprayEnd := none
  ovenEntry := none
  ovenExit := none
  heldTime := none
  recoatDeadline := none
  dose := 0
  position := 0
  conflicts := 0
  firstConflict := none
  thinCells := 0
  thickCells := 0
  firstFailing := none
  seed := 0

/-- The Table Store after every reset (R45). -/
def Tables.reset : Tables where
  applicators := Vector.replicate 4 ⟨none, false⟩
  coatings := Vector.replicate 4 none
  recipes := Vector.replicate 16 none
  programs := Vector.replicate 16 ⟨.empty, [], none⟩
  patches := Vector.replicate 4 none
  oven := none

/-- The Board Tracker after every reset, around a board table (R1, R4, R14, R15, R125). -/
def Tracker.reset (boards : Vector BoardRecord 32) : Tracker where
  admissions := []
  boards := boards
  mask := []
  infeed := []
  cell := []
  flashOff := []
  cool := []
  maskToInfeed := .idle
  maskToLane := .idle
  infeedToCell := .idle
  cellToFlash := .idle
  coolToExit := .idle
  coolToSpur := .idle
  loaderReady := false
  flash := Vector.replicate 32 none

/-- The Mask Verifier after every reset (R70). -/
def Verifier.reset : Verifier := ⟨.idle, .none⟩

/-- The Spray Sequencer after every reset (R82). -/
def Sequencer.reset : Sequencer where
  cell := .idle
  stopCause := none
  stopApplicator := none
  index := 0
  segment := none
  phase := .none
  deadline := none
  valve := none
  valveStart := none
  preStart := none
  guard := .opened
  monitors := Vector.replicate 4 ⟨.unknown, none, none, 0, 0⟩

/-- A FREE map frame (R108). -/
def FrameEntry.free : FrameEntry := ⟨.free, none, none⟩

/-- The Cure Tracker after every reset (R136). -/
def Cure.reset : Cure where
  oven := []
  zones := Vector.replicate 6 ⟨0, 0, false⟩
  sampling := .receiving
  silence := some 2000
  spacing := 0
  gate := .closed
  ovenStop := false

/-- The ports when a reset ends: receivers in AWAIT_KIND, the reset outputs waiting (R186). -/
def Ports.reset : Ports where
  motion := ⟨.awaitKind, [.halt], []⟩
  fluid := ⟨.awaitKind, [.valveClose 0, .valveClose 1, .valveClose 2, .valveClose 3], []⟩
  station := ⟨.awaitKind, [.loaderReady false], []⟩
  oven := ⟨.awaitKind, [.entryGate .closed, .ovenStop false], []⟩

/-- The machine right after a POWER_ON reset (R176, R177, R186): mode LOST, START_STATUS.POWER_ON
set, exchange memory zero but for the entry LINE_MODE(LOST, previous mode 0, POWER_ON) at index 0 of
the activity list, ATTN.RESTART set by the reset and ATTN.ACTIVITY by the entry (R39, R42; DEDUCED,
notes/assumptions/6.md). The empty queue and the counter at 0 are the model's own (DESIGN CHOICE,
notes/assumptions/1.md and 7.md). -/
def State.reset : State where
  pending := []
  lineTime := 0
  exchange :=
    { attn := 0b10001
      attnEn := 0
      startStatus := 0b001
      scanPending := false
      writeIndex := 1
      directory := Vector.replicate 64 ⟨.free, 0⟩
      mem := [(0x1000, 18), (0x1001, 9), (0x1004, 1)] }
  cards := ⟨[], none⟩
  tables := Tables.reset
  tracker := Tracker.reset (Vector.replicate 32 BoardRecord.blank)
  verifier := Verifier.reset
  sequencer := Sequencer.reset
  coverage := ⟨Vector.replicate 8 FrameEntry.free⟩
  cure := Cure.reset
  holds := ⟨Vector.replicate 8 .free, [], []⟩
  line := ⟨.lost, none⟩
  ports := Ports.reset
  start := .running
  freeCount := 0

end Sys2Proof.Machine
end

