-- ==== Sys2Proof/Machine/Ops.lean ====
section
/-! DEFINITION. The shared operations over the state: attention bits, activity appends, transmitters,
board records, slots, hold order, routes, and table lookups. -/

namespace Sys2Proof.Machine

/-! ### Time -/

/-- A deadline has been reached at line time `now`: times are compared modulo 2^32, so a deadline lies
in the past when it is less than half the range behind (00_scope.md, "Time"; DEDUCED,
notes/assumptions/3.md). -/
def reached (deadline now : Time) : Bool := (now - deadline).toNat < 2 ^ 31

/-- A deadline that may not be running has been reached. -/
def expired (deadline : Option Time) (now : Time) : Bool :=
  match deadline with
  | none => false
  | some d => reached d now

/-! ### Attention bits and the activity list (R39, R42) -/

def attnActivity : BitVec 5 := 0b00001
def attnOverflow : BitVec 5 := 0b00010
def attnRefused : BitVec 5 := 0b00100
def attnFault : BitVec 5 := 0b01000
def attnRestart : BitVec 5 := 0b10000

/-- Sets attention bits. -/
def State.setAttn (bits : BitVec 5) (s : State) : State :=
  { s with exchange := { s.exchange with attn := s.exchange.attn ||| bits } }

/-- The offset of the activity read index, the low byte of the first word of the host header (R26). -/
def readIndexAt : Nat := 0x100

/-- The activity read index (R26). -/
def State.readIndex (s : State) : Byte := s.exchange.mem.read readIndexAt

/-- The activity list is full (R39). -/
def State.listFull (s : State) : Bool := s.exchange.writeIndex + 1 == s.readIndex

/-- The offset of an activity entry (R39). -/
def entryAt (index : Byte) : Nat := 0x1000 + 16 * index.toNat

/-- Appends an activity entry with the present line time, or drops it with ATTN.OVERFLOW when the
list is full (R39). -/
def State.append (e : Activity) (s : State) : State :=
  if s.listFull then s.setAttn attnOverflow
  else
    { s with
      exchange :=
        { s.exchange with
          attn := s.exchange.attn ||| attnActivity
          writeIndex := s.exchange.writeIndex + 1
          mem := s.exchange.mem.writeBytes (entryAt s.exchange.writeIndex) (e.bytes s.lineTime) } }

/-! ### Transmitters (R184) -/

def Ports.get (p : Ports) : Port → PortState
  | .motion => p.motion
  | .fluid => p.fluid
  | .station => p.station
  | .oven => p.oven

def Ports.set (p : Ports) (port : Port) (v : PortState) : Ports :=
  match port with
  | .motion => { p with motion := v }
  | .fluid => { p with fluid := v }
  | .station => { p with station := v }
  | .oven => { p with oven := v }

/-- The port a message is sent on (section 11.3). -/
def Message.port : Message → Port
  | .segRun .. => .motion
  | .halt => .motion
  | .valveOpen .. => .fluid
  | .valveClose _ => .fluid
  | .loaderReady _ => .station
  | .inspect _ => .station
  | .transfer .. => .station
  | .entryGate _ => .oven
  | .ovenStop _ => .oven

/-- Issues a frame: it joins the transmitter's waiting frames, or is dropped while 32 wait. -/
def PortState.issue (m : Message) (p : PortState) : PortState :=
  if p.waiting.length < Config.transmitCapacity then { p with waiting := p.waiting ++ [m] } else p

/-- Sends a message on its port (R184). -/
def State.send (m : Message) (s : State) : State :=
  { s with ports := s.ports.set m.port ((s.ports.get m.port).issue m) }

/-! ### Board records (R7, R8, R12) -/

/-- The record of a tag. -/
def State.record (s : State) (t : Tag) : BoardRecord := s.tracker.boards[t]

/-- Writes a record. -/
def State.setRecord (t : Tag) (r : BoardRecord) (s : State) : State :=
  { s with tracker := { s.tracker with boards := s.tracker.boards.set t r } }

/-- Changes a record. -/
def State.modifyRecord (t : Tag) (f : BoardRecord → BoardRecord) (s : State) : State :=
  s.setRecord t (f (s.record t))

/-- Adds a reason to a reason set (R12). -/
def BoardRecord.addReason (r : Reason) (b : BoardRecord) : BoardRecord :=
  { b with reasons := b.reasons ||| r.mask }

/-- The reason set holds a reason. -/
def BoardRecord.hasReason (r : Reason) (b : BoardRecord) : Bool := b.reasons &&& r.mask != 0

/-- Adds a reason where a condition holds. -/
def BoardRecord.addReasonIf (c : Bool) (r : Reason) (b : BoardRecord) : BoardRecord :=
  if c then b.addReason r else b

/-- A record that enters HELD: stage, verdict HOLD, location and held time in one write (R11). -/
def BoardRecord.hold (location : Location) (time : Time) (b : BoardRecord) : BoardRecord :=
  { b with stage := .held, verdict := .hold, location := location, heldTime := some time }

/-- Freeing a record: the valid byte becomes 0, the other bytes keep their values (R8). -/
def BoardRecord.release (b : BoardRecord) : BoardRecord := { b with valid := false }

/-- All board tags in ascending order. -/
def allTags : List Tag := List.finRange 32

/-- The free board tags, lowest first (R4, R6). -/
def State.freeTags (s : State) : List Tag := allTags.filter fun t => !(s.record t).valid

/-- The record is valid and in a transport stage (R11). -/
def BoardRecord.inTransport (b : BoardRecord) : Bool := b.valid && b.stage.transport

/-- The line is empty: no valid record is in a transport stage (R11, R170). -/
def State.lineEmpty (s : State) : Bool := allTags.all fun t => !(s.record t).inTransport

/-! ### Position lists and routes (R13, R15) -/

/-- The list a route takes its board from (R15). -/
def Tracker.source (k : Tracker) : Route → List Place
  | .maskToInfeed => k.mask
  | .maskToLane => k.mask
  | .infeedToCell => k.infeed
  | .cellToFlash => k.cell
  | .coolToExit => k.cool
  | .coolToSpur => k.cool

def Tracker.setSource (k : Tracker) (r : Route) (l : List Place) : Tracker :=
  match r with
  | .maskToInfeed => { k with mask := l }
  | .maskToLane => { k with mask := l }
  | .infeedToCell => { k with infeed := l }
  | .cellToFlash => { k with cell := l }
  | .coolToExit => { k with cool := l }
  | .coolToSpur => { k with cool := l }

def Tracker.route (k : Tracker) : Route → RouteState
  | .maskToInfeed => k.maskToInfeed
  | .maskToLane => k.maskToLane
  | .infeedToCell => k.infeedToCell
  | .cellToFlash => k.cellToFlash
  | .coolToExit => k.coolToExit
  | .coolToSpur => k.coolToSpur

def Tracker.setRoute (k : Tracker) (r : Route) (v : RouteState) : Tracker :=
  match r with
  | .maskToInfeed => { k with maskToInfeed := v }
  | .maskToLane => { k with maskToLane := v }
  | .infeedToCell => { k with infeedToCell := v }
  | .cellToFlash => { k with cellToFlash := v }
  | .coolToExit => { k with coolToExit := v }
  | .coolToSpur => { k with coolToSpur := v }

/-- The tag at the head of a list. -/
def headTag (l : List Place) : Option Tag := l.head?.map (·.tag)

/-- A tag joins a position list at the tail (R13). -/
def joinTail (l : List Place) (t : Tag) : List Place := l ++ [⟨t, false⟩]

/-- The head of a list with its in-transit mark set. -/
def markHead : List Place → List Place
  | [] => []
  | p :: l => { p with inTransit := true } :: l

/-- The cell board: the tag in the spray cell list (R82). -/
def State.cellBoard (s : State) : Option Tag := headTag s.tracker.cell

/-! ### Hold slots and hold order (R157, R158) -/

/-- Sets a slot's state and appends SLOT_STATE with the tag the slot takes, or the one it carried. -/
def State.setSlot (n : SlotId) (new : SlotState) (s : State) : State :=
  let old := s.holds.slots[n]
  { s with holds := { s.holds with slots := s.holds.slots.set n new } }.append
    (.slotState n new old (match new.tag with | some t => some t | none => old.tag))

/-- The lowest FREE spur slot (R153). -/
def State.freeSpur (s : State) : Option SlotId :=
  ([0, 1, 2, 3, 4, 5] : List SlotId).find? fun n => s.holds.slots[n] == .free

/-- The lowest FREE mask-lane slot (R77). -/
def State.freeLane (s : State) : Option SlotId :=
  ([6, 7] : List SlotId).find? fun n => s.holds.slots[n] == .free

/-- Puts a tag at the end of an order, ahead of the trailing tags that `later` says it precedes. -/
def joinOrder (later : Tag → Bool) (t : Tag) : List Tag → List Tag
  | [] => [t]
  | x :: l => if (x :: l).all later then t :: x :: l else x :: joinOrder later t l

/-- A board that becomes HELD stands behind every board already in the order, except boards with the
same held time and a higher tag that came since the last reset (R158, R179; DEDUCED,
notes/assumptions/17.md). -/
def State.joinHolds (t : Tag) (s : State) : State :=
  { s with
    holds :=
      { s.holds with
        since :=
          joinOrder (fun x => (s.record x).heldTime == (s.record t).heldTime && t < x) t s.holds.since } }

/-- A board leaves the hold order (R158). -/
def State.leaveHolds (t : Tag) (s : State) : State :=
  { s with
    holds :=
      { s.holds with
        kept := s.holds.kept.filter (· != t)
        since := s.holds.since.filter (· != t) } }

/-- The hold order (R158, R179). -/
def State.holdOrder (s : State) : List Tag := s.holds.kept ++ s.holds.since

/-! ### Table lookups (chapter 3)

A lookup of an empty entry, which no run makes, gives a free value (DESIGN CHOICE,
notes/assumptions/8.md). -/

def State.recipe (s : State) (id : RecipeId) : Recipe := s.tables.recipes[id].getD Config.emptyRecipe

def State.coating (s : State) (id : CoatingId) : Coating := s.tables.coatings[id].getD Config.emptyCoating

def State.applicator (s : State) (a : ApplicatorId) : Applicator :=
  s.tables.applicators[a].record.getD Config.emptyApplicator

def State.oven (s : State) : OvenTable := s.tables.oven.getD Config.emptyOven

/-- The recipe of a board. -/
def State.boardRecipe (s : State) (t : Tag) : Recipe := s.recipe (s.record t).recipe

/-- The coating of a board, named by its recipe. -/
def State.boardCoating (s : State) (t : Tag) : Coating := s.coating (s.boardRecipe t).coating

/-- The cumulative zone ends E1 to E6 (R67). -/
def OvenTable.ends (o : OvenTable) : List Nat :=
  (o.lengths.toList.foldl (fun p l => (p.1 ++ [p.2 + l], p.2 + l)) (([], 0) : List Nat × Nat)).1

/-- The total oven length E6 (R67). -/
def OvenTable.total (o : OvenTable) : Nat := o.lengths.toList.sum

/-- Writes a frame table entry (R108). -/
def State.setFrame (f : FrameId) (e : FrameEntry) (s : State) : State :=
  { s with coverage := { s.coverage with frames := s.coverage.frames.set f e } }

end Sys2Proof.Machine
end

