-- ==== Sys2Proof/Machine/Flags.lean ====
section
/-! DEFINITION. The levels and conditions computed from the state: the interrupt line, the LINE_CTL
word, the loader-ready level (R4), the start conditions of the routes (R16), the entry gate's
conditions (R131), engagement and running programs (R49, R59), and entries in use (R46). -/

namespace Sys2Proof.Machine

/-! ### Registers and the interrupt line (R41-R43) -/

/-- The interrupt line is asserted while a bit is set in both ATTN and ATTN_EN (R43). -/
def State.interrupt (s : State) : Bool := s.exchange.attn &&& s.exchange.attnEn != 0

/-- The word LINE_CTL reads (R41). -/
def State.lineCtl (s : State) : Word :=
  word (s.line.mode.code + 256 * faultByte s.line.firstFault + 65536 * (if s.cure.ovenStop then 1 else 0))

/-! ### Loader-ready level (R4) -/

/-- The three conditions of R4. -/
def State.loaderCondition (s : State) : Bool :=
  s.line.mode == .run && s.tracker.mask.isEmpty && !s.freeTags.isEmpty

/-- Drives the loader-ready level and sends LOADER_READY when it changes (R4). -/
def State.driveLoader (s : State) : State :=
  if s.tracker.loaderReady == s.loaderCondition then s
  else
    { s with tracker := { s.tracker with loaderReady := s.loaderCondition } }.send
      (.loaderReady s.loaderCondition)

/-! ### Line modes in the conditions -/

/-- RUN, FREEZE or DRAIN. -/
def LineMode.working : LineMode → Bool
  | .run => true
  | .freeze => true
  | .drain => true
  | _ => false

/-- RUN or DRAIN. -/
def LineMode.spraying : LineMode → Bool
  | .run => true
  | .drain => true
  | _ => false

/-! ### Start conditions of the routes (R16) -/

/-- The head of a route's source list, where it carries no in-transit mark. -/
def State.carried (s : State) (r : Route) : Option Tag :=
  match s.tracker.source r with
  | [] => none
  | p :: _ => if p.inTransit then none else some p.tag

/-- The conditions of R16 beside the route's own state and the carried board. -/
def State.routeCondition (s : State) (r : Route) (t : Tag) : Bool :=
  match r with
  | .maskToInfeed =>
    s.verifier.outcome == .pass && decide (s.tracker.infeed.length < 2) && s.line.mode.working
  | .maskToLane => s.verifier.outcome == .reject && s.freeLane.isSome && s.line.mode.working
  | .infeedToCell =>
    s.sequencer.cell == .idle && s.sequencer.guard == .closed && s.line.mode.spraying
  | .cellToFlash =>
    s.sequencer.cell == .unloading && decide (s.tracker.flashOff.length < 4) && s.line.mode.working
  | .coolToExit => (s.record t).verdict == .pass
  | .coolToSpur => (s.record t).verdict == .hold && s.freeSpur.isSome

/-! ### The entry gate (R131) -/

/-- The flash-off list has a head whose flash-off done flag is set. -/
def State.headReady (s : State) : Bool :=
  match headTag s.tracker.flashOff with
  | none => false
  | some t =>
    match s.tracker.flash[t] with
    | none => false
    | some i => i.done

/-- All conditions of R131 hold. -/
def State.gateCondition (s : State) : Bool :=
  s.headReady
    && decide (s.cure.oven.length < Config.ovenCapacity)
    && (match s.tables.oven with
        | none => false
        | some o => decide (o.spacing ≤ s.cure.spacing))
    && decide (s.tracker.cool.length < 3)
    && s.line.mode.working
    && !s.cure.ovenStop

/-- The gate state the conditions ask for. -/
def State.gateWanted (s : State) : GateState := if s.gateCondition then .opened else .closed

/-- Re-examines the gate: where the result differs, sets it and sends ENTRY_GATE (R131). -/
def State.driveGate (s : State) : State :=
  if s.cure.gate == s.gateWanted then s
  else { s with cure := { s.cure with gate := s.gateWanted } }.send (.entryGate s.gateWanted)

/-! ### The spray cell's hold on tables (R49, R59) -/

/-- The applicator a segment names. -/
def Segment.applicator : Segment → Option ApplicatorId
  | .pass a .. => some a
  | .move .. => none
  | .dwell a .. => some a

/-- The held segment is wet: a PASS or DWELL that is not a dry run (R82). -/
def HeldSegment.wet (h : HeldSegment) : Option ApplicatorId :=
  if h.dryRun then none else h.record.applicator

/-- The applicator engaged by the held segment (R49, R82). -/
def Sequencer.engaged (q : Sequencer) : Option ApplicatorId :=
  if q.phase == .none then none else q.segment.bind HeldSegment.wet

/-- The program the spray cell is running (R59, R106). -/
def State.runningProgram (s : State) : Option ProgramId :=
  match s.sequencer.cell with
  | .running | .paused | .interlocked | .stopped => s.cellBoard.map fun t => (s.boardRecipe t).program
  | _ => none

/-! ### Entries in use (R46) -/

/-- All recipe ids in ascending order. -/
def allRecipes : List RecipeId := List.finRange 16

/-- How many admission entries carry a recipe id. -/
def State.admissionsOf (s : State) (id : RecipeId) : Nat :=
  (s.tracker.admissions.filter fun a => a.recipe == id).length

/-- How many valid records carry a recipe id. -/
def State.recordsOf (s : State) (id : RecipeId) : Nat :=
  (allTags.filter fun t => (s.record t).valid && (s.record t).recipe == id).length

/-- A loaded recipe is in use while an admission entry or a valid record carries its id. -/
def State.recipeInUse (s : State) (id : RecipeId) : Bool :=
  s.tables.recipes[id].isSome && decide (0 < s.admissionsOf id + s.recordsOf id)

/-- The lowest id among the in-use recipes that satisfy a condition. -/
def State.lowestInUse (s : State) (p : Recipe → Bool) : Option RecipeId :=
  allRecipes.find? fun id =>
    s.recipeInUse id && (match s.tables.recipes[id] with | none => false | some r => p r)

/-! ### The reason sets that bar a recoat (R162) -/

/-- FILM_THICK, OVERCURE, SCORCH or EXIT_OVERRUN is in the reason set. -/
def BoardRecord.barred (b : BoardRecord) : Bool :=
  b.hasReason .filmThick || b.hasReason .overcure || b.hasReason .scorch || b.hasReason .exitOverrun

/-- How many frames are RESERVED (R109, R162). -/
def State.reservedFrames (s : State) : Nat :=
  (s.coverage.frames.toList.filter fun e => e.state == .reserved).length

end Sys2Proof.Machine
end

