-- ==== Sys2Proof/Machine/Operands.lean ====
section
/-! DEFINITION. The operands of a taken card: its body fields, the checks of a card, the segment,
zone and record layouts read from it, and the completion of a card (R32-R35, R48-R67). -/

namespace Sys2Proof.Machine

/-! ### Body fields, by card offset (R32) -/

/-- The byte at a card offset from 16 on; a byte the body length does not give reads 0, and decides nothing
(DESIGN CHOICE, notes/assumptions/14.md). -/
def TakenCard.byteAt (c : TakenCard) (offset : Nat) : Byte := c.body.getD (offset - 16) 0

/-- A one-byte field. -/
def TakenCard.u8 (c : TakenCard) (offset : Nat) : Nat := (c.byteAt offset).toNat

/-- A two-byte field. -/
def TakenCard.u16 (c : TakenCard) (offset : Nat) : Nat := c.u8 offset + 256 * c.u8 (offset + 1)

/-- An eight-byte serial. -/
def TakenCard.u64 (c : TakenCard) (offset : Nat) : Serial :=
  BitVec.ofNat 64 (ofLe ((List.range 8).map fun i => c.byteAt (offset + i)))

/-- The body is shorter than a kind needs, or longer than a card body can be (R33). -/
def TakenCard.badLength (c : TakenCard) (least : Nat) : Bool :=
  decide (c.bodyLength.toNat < least) || decide (Config.maxBody < c.bodyLength.toNat)

/-! ### Results and checks (R33) -/

/-- A result with a status and detail words given as numbers. -/
def result (status : Status) (details : List Nat) : CardResult := ⟨status, details.map word⟩

/-- REFUSED_RANGE: detail word 0 holds the card offset of the offending field (R33). -/
def refusedAt (offset : Nat) : CardResult := result .refusedRange [offset]

/-- A check: whether it refuses, and the result it then gives. -/
abbrev Check := Bool × CardResult

/-- The first refusal that applies (R33). -/
def firstRefusal : List Check → Option CardResult
  | [] => none
  | (refuses, r) :: l => if refuses then some r else firstRefusal l

/-- Gives the first refusal that applies, with no effect, or applies the card. -/
def judge (checks : List Check) (apply : State → State × CardResult) (s : State) :
    State × CardResult :=
  match firstRefusal checks with
  | some r => (s, r)
  | none => apply s

/-- A field lies outside lo-hi. -/
def outside (n lo hi : Nat) : Bool := decide (n < lo) || decide (hi < n)

/-- A check on the range of a field at a card offset. -/
def rangeCheck (offset n lo hi : Nat) : Check := (outside n lo hi, refusedAt offset)

/-! ### Completion (R34) -/

/-- Where card n begins (R24). -/
def cardAt (n : CardId) : Nat := 0x4000 + 1024 * n.val

/-- The result section: status code, six detail words, host tag copy (R32, R34). -/
def CardResult.bytes (r : CardResult) (hostTag : Word) : List Byte :=
  le32 (word r.status.code) ++ ((List.range 6).flatMap fun i => le32 (r.details.getD i 0)) ++ le32 hostTag

/-- Writes a directory entry. -/
def State.setEntry (n : CardId) (e : DirectoryEntry) (s : State) : State :=
  { s with exchange := { s.exchange with directory := s.exchange.directory.set n e } }

/-- Writes bytes of exchange memory. -/
def State.writeMem (base : Nat) (bs : List Byte) (s : State) : State :=
  { s with exchange := { s.exchange with mem := s.exchange.mem.writeBytes base bs } }

/-- Completes a card: result section, directory entry DONE, CARD_DONE (R34). -/
def State.completeAs (n : CardId) (kind : Byte) (hostTag : Word) (r : CardResult) (s : State) : State :=
  ((s.writeMem (cardAt n + 992) (r.bytes hostTag)).setEntry n ⟨.done, byte r.status.code⟩).append
    (.cardDone n kind r.status hostTag)

/-- Completes the card that was processed, which leaves the Card Processor. -/
def State.completeCard (c : TakenCard) (rest : List TakenCard) (r : CardResult) (s : State) : State :=
  { s with cards := { s.cards with taken := rest } }.completeAs c.index c.kind c.hostTag r

/-- The card is of a kind (R32). -/
def TakenCard.isKind (k : Nat) (c : TakenCard) : Bool := c.kind.toNat == k

/-! ### Named values read from their codes -/

def applicatorKindOf : Nat → ApplicatorKind
  | 1 => .needle
  | 2 => .film
  | 3 => .atomize
  | _ => .jet

def monitorModeOf : Nat → MonitorMode
  | 1 => .warn
  | _ => .interlock

def directionOf : Nat → Direction
  | 1 => .plusX
  | 2 => .minusX
  | 3 => .plusY
  | _ => .minusY

def zoneClassOf : Nat → ZoneClass
  | 1 => .keepOut
  | 2 => .masked
  | 3 => .thin
  | _ => .coat

def maskPolicyOf : Nat → MaskPolicy
  | 1 => .reject
  | _ => .sprayAround

def conflictPolicyOf : Nat → ConflictPolicy
  | 1 => .dryRun
  | _ => .stopBoard

/-! ### Segment records (R54) -/

/-- The checks of a segment record at a card offset: whether each fails, and the field's offset. -/
def TakenCard.segmentChecks (c : TakenCard) (b : Nat) : List (Bool × Nat) :=
  let kind := c.u8 b
  [ (outside kind 1 3, b),
    (kind != 2 && outside (c.u8 (b + 1)) 0 3, b + 1),
    (kind == 1 && outside (c.u8 (b + 2)) 1 4, b + 2),
    (outside (c.u8 (b + 3)) 0 63, b + 3),
    (outside (c.u8 (b + 4)) 0 47, b + 4),
    (kind == 1 && outside (c.u8 (b + 5)) 1 64, b + 5),
    (kind != 2 && outside (c.u8 (b + 6)) 1 8, b + 6),
    (kind != 2 && outside (c.u8 (b + 7)) 50 150, b + 7),
    (kind != 3 && outside (c.u16 (b + 8)) 5 500, b + 8),
    (kind == 3 && outside (c.u16 (b + 10)) 1 60000, b + 10) ]

/-- The segment record at a card offset, with the fields its kind uses. -/
def TakenCard.segment (c : TakenCard) (b : Nat) : Segment :=
  match c.u8 b with
  | 1 =>
    .pass (Fin.ofNat 4 (c.u8 (b + 1))) (directionOf (c.u8 (b + 2))) (c.u8 (b + 3)) (c.u8 (b + 4))
      (c.u8 (b + 5)) (c.u8 (b + 6)) (c.u8 (b + 7)) (c.u16 (b + 8))
  | 2 => .move (c.u8 (b + 3)) (c.u8 (b + 4)) (c.u16 (b + 8))
  | _ =>
    .dwell (Fin.ofNat 4 (c.u8 (b + 1))) (c.u8 (b + 3)) (c.u8 (b + 4)) (c.u8 (b + 6)) (c.u8 (b + 7))
      (c.u16 (b + 10))

/-! ### Zone lists (R63) -/

/-- Where zone z begins. -/
def zoneAt (z : Nat) : Nat := 36 + 6 * z

/-- How many of the zones before z are MASKED. -/
def TakenCard.maskedBefore (c : TakenCard) (z : Nat) : Nat :=
  ((List.range z).filter fun i => c.u8 (zoneAt i) == 2).length

/-- The checks of zone z on a grid: a ninth MASKED zone is refused at its class byte. -/
def TakenCard.zoneChecks (c : TakenCard) (columns rows z : Nat) : List Check :=
  let b := zoneAt z
  [ (outside (c.u8 b) 1 4 || (c.u8 b == 2 && decide (8 ≤ c.maskedBefore z)), refusedAt b),
    rangeCheck (b + 1) (c.u8 (b + 1)) 0 (columns - 1),
    rangeCheck (b + 2) (c.u8 (b + 2)) 0 (rows - 1),
    rangeCheck (b + 3) (c.u8 (b + 3)) (c.u8 (b + 1)) (columns - 1),
    rangeCheck (b + 4) (c.u8 (b + 4)) (c.u8 (b + 2)) (rows - 1) ]

/-- Zone z of the zone list. -/
def TakenCard.zone (c : TakenCard) (z : Nat) : Zone :=
  ⟨zoneClassOf (c.u8 (zoneAt z)), c.u8 (zoneAt z + 1), c.u8 (zoneAt z + 2), c.u8 (zoneAt z + 3),
    c.u8 (zoneAt z + 4)⟩

/-! ### Table records (R48, R51, R62, R67) -/

/-- The range checks of an APPLICATOR_LOAD (R48). -/
def TakenCard.applicatorChecks (c : TakenCard) : List Check :=
  [ (c.badLength 13, refusedAt 8),
    rangeCheck 16 (c.u8 16) 0 3,
    rangeCheck 17 (c.u8 17) 1 4,
    rangeCheck 18 (c.u16 18) 1 4095,
    rangeCheck 20 (c.u16 20) 50 1023,
    rangeCheck 22 (c.u8 22) 1 100,
    (c.u8 23 == 0, refusedAt 23),
    rangeCheck 24 (c.u16 24) 0 1023,
    rangeCheck 26 (c.u16 26) (c.u16 24 + 20) 1023,
    rangeCheck 28 (c.u8 28) 1 2 ]

/-- The applicator record of an APPLICATOR_LOAD (R48). -/
def TakenCard.applicator (c : TakenCard) : Applicator where
  kind := applicatorKindOf (c.u8 17)
  flow := c.u16 18
  nominal := c.u16 20
  efficiency := c.u8 22
  slotMask := c.byteAt 23
  bandLow := c.u16 24
  bandHigh := c.u16 26
  mode := monitorModeOf (c.u8 28)

/-- The checks of cure band b: its bound is at most 400 and above the bound before it (R51). -/
def TakenCard.bandCheck (c : TakenCard) (b : Nat) : Check :=
  rangeCheck (32 + 4 * b) (c.u16 (32 + 4 * b)) (if b = 0 then 0 else c.u16 (28 + 4 * b) + 1) 400

/-- The range checks of a COATING_LOAD (R51). -/
def TakenCard.coatingChecks (c : TakenCard) : List Check :=
  [ (c.badLength 48, refusedAt 8),
    rangeCheck 16 (c.u8 16) 0 3,
    rangeCheck 17 (c.u8 17) 10 100,
    rangeCheck 18 (c.u16 18) 0 3600,
    rangeCheck 20 (c.u16 20) (max 1 (c.u16 18)) 7200,
    rangeCheck 22 (c.u16 22) 0 400,
    rangeCheck 26 (c.u16 26) (c.u16 24) 65535,
    rangeCheck 28 (c.u16 28) 1 1440 ] ++ (List.range 8).map c.bandCheck

/-- The coating record of a COATING_LOAD (R51). -/
def TakenCard.coating (c : TakenCard) : Coating where
  solids := c.u8 17
  flashMin := c.u16 18
  openMax := c.u16 20
  scorch := c.u16 22
  doseMin := c.u16 24
  doseMax := c.u16 26
  recoatWindow := c.u16 28
  bands := #v[⟨c.u16 32, c.u8 34⟩, ⟨c.u16 36, c.u8 38⟩, ⟨c.u16 40, c.u8 42⟩, ⟨c.u16 44, c.u8 46⟩,
    ⟨c.u16 48, c.u8 50⟩, ⟨c.u16 52, c.u8 54⟩, ⟨c.u16 56, c.u8 58⟩, ⟨c.u16 60, c.u8 62⟩]

/-- The field and zone checks of a RECIPE_LOAD (R62, R63). -/
def TakenCard.recipeChecks (c : TakenCard) : List Check :=
  [ (c.badLength 20, refusedAt 8),
    rangeCheck 16 (c.u8 16) 0 15,
    rangeCheck 17 (c.u8 17) 4 64,
    rangeCheck 18 (c.u8 18) 4 48,
    rangeCheck 19 (c.u8 19) 0 15,
    rangeCheck 20 (c.u8 20) 0 3,
    rangeCheck 21 (c.u8 21) 1 2,
    rangeCheck 22 (c.u8 22) 1 2,
    rangeCheck 23 (c.u8 23) 0 2,
    rangeCheck 24 (c.u16 24) 100 10000,
    rangeCheck 26 (c.u16 26) 0 4095,
    rangeCheck 28 (c.u16 28) (c.u16 26) 4095,
    rangeCheck 30 (c.u16 30) 0 4095,
    rangeCheck 32 (c.u16 32) (c.u16 30) 4095,
    rangeCheck 34 (c.u8 34) 0 24,
    (c.badLength (20 + 6 * c.u8 34), refusedAt 8) ]
    ++ (List.range (c.u8 34)).flatMap (c.zoneChecks (c.u8 17) (c.u8 18))

/-- The recipe record of a RECIPE_LOAD (R62, R63). -/
def TakenCard.recipe (c : TakenCard) : Recipe where
  columns := c.u8 17
  rows := c.u8 18
  program := Fin.ofNat 16 (c.u8 19)
  coating := Fin.ofNat 4 (c.u8 20)
  maskPolicy := maskPolicyOf (c.u8 21)
  conflictPolicy := conflictPolicyOf (c.u8 22)
  recoatLimit := c.u8 23
  verifyTimeout := c.u16 24
  coatMin := c.u16 26
  coatMax := c.u16 28
  thinMin := c.u16 30
  thinMax := c.u16 32
  zones := (List.range (c.u8 34)).map c.zone

/-- The running sum of the first z zone lengths of an OVEN_LOAD. -/
def TakenCard.lengthSum (c : TakenCard) (z : Nat) : Nat :=
  ((List.range z).map fun i => c.u16 (16 + 2 * i)).sum

/-- The check of the zone length at place i, from 0: in 1-20000, and the running sum at most 65535
(R67). -/
def TakenCard.lengthCheck (c : TakenCard) (i : Nat) : Check :=
  (outside (c.u16 (16 + 2 * i)) 1 20000 || decide (65535 < c.lengthSum (i + 1)), refusedAt (16 + 2 * i))

/-- The range checks of an OVEN_LOAD (R67). -/
def TakenCard.ovenChecks (c : TakenCard) : List Check :=
  (c.badLength 16, refusedAt 8) :: (List.range 6).map c.lengthCheck
    ++ [rangeCheck 28 (c.u16 28) 0 2000, rangeCheck 30 (c.u16 30) 0 20000]

/-- The oven table of an OVEN_LOAD (R67). -/
def TakenCard.ovenTable (c : TakenCard) : OvenTable where
  lengths := #v[c.u16 16, c.u16 18, c.u16 20, c.u16 22, c.u16 24, c.u16 26]
  tolerance := c.u16 28
  spacing := c.u16 30

end Sys2Proof.Machine
end

