-- ==== Sys2Proof/Machine/Start.lean ====
section
/-! DEFINITION. What the part does while it is held in reset or restarts (R175, R179): the entries that the
restart visits one by one, host accesses that are not served, and events that wait for the restart's end; and
the processing of a taken card. -/

namespace Sys2Proof.Machine

/-! ### The visits of a restart (R36, R179 steps 4 and 5) -/

/-- All card indexes, ascending. -/
def allCards : List CardId := List.finRange 64

/-- The kind byte of a card as it stands in exchange memory (R32). -/
def Memory.cardKind (m : Memory) (n : CardId) : Byte := m.read (cardAt n)

/-- The host tag of a card as it stands in exchange memory (R32). -/
def Memory.cardTag (m : Memory) (n : CardId) : Word := word (ofLe (m.readBytes (cardAt n + 4) 4))

/-- A card found TAKEN is completed with ABORTED_BY_RESET; the kind and the host tag are those that stand in
exchange memory (R36). -/
def State.abortCard (s : State) (n : CardId) : State :=
  if s.exchange.directory[n].state = .taken then
    s.completeAs n (s.exchange.mem.cardKind n) (s.exchange.mem.cardTag n) ⟨.abortedByReset, []⟩
  else s

/-- BOARD_HELD for a valid record: location kind NONE, slot 0 (R179 step 5). -/
def State.reportHeld (s : State) (t : Tag) : State :=
  if (s.record t).valid then s.append (.boardHeld t .none (s.record t).reasons) else s

/-- What a restart visits once it has made its conversion and appended LINE_MODE. -/
inductive Visit where
  | card (n : CardId)
  | board (t : Tag)
  deriving DecidableEq, Repr

/-- The visits in order: the cards in ascending index, then the records in ascending tag (R179). -/
def restartVisits : List Visit := allCards.map .card ++ allTags.map .board

/-- One visit. -/
def State.visit (s : State) (v : Visit) : State :=
  match v with
  | .card n => s.abortCard n
  | .board t => s.reportHeld t

/-- The visit appends an entry: the card is TAKEN, or the record valid. -/
def State.due (s : State) : Visit → Bool
  | .card n => s.exchange.directory[n].state == .taken
  | .board t => (s.record t).valid

/-- The restart goes on over some visits. -/
def State.visitAll (visits : List Visit) (s : State) : State := visits.foldl State.visit s

/-- The restart, which has made some of its visits, makes the others, and the part runs. -/
def State.finishRestart (visits : Nat) (s : State) : State :=
  { s.visitAll (restartVisits.drop visits) with start := .running }

/-! ### Commands that meet a reset or a restart (R175, R186) -/

/-- A host access: it is served while the part runs, and otherwise ignored (R175). -/
def State.served (f : State → State) (s : State) : State :=
  match s.start with
  | .running => f s
  | .held _ => s
  | .restarting _ => s

/-- Any other event but a reset: held in reset, the part does nothing; during a restart the event is taken
when the restart has appended its last entry (R40, R175, R186; DEDUCED, notes/assumptions/11.md). -/
def State.live (f : State → State) (s : State) : State :=
  match s.start with
  | .running => f s
  | .held _ => s
  | .restarting visits => f (s.finishRestart visits)

/-! ### The processing of a taken card (R29, R33) -/

/-- Processes the next taken card, once the walk is over and where the card is one that the command names (R29,
R33): the effects and the completion are one event. Otherwise the command names no event, and nothing happens
(DESIGN CHOICE, notes/assumptions/2.md). -/
def State.processCard (fits : TakenCard → Bool) (apply : TakenCard → State → State × CardResult)
    (s : State) : State :=
  s.live fun s =>
    match s.cards.visiting, s.cards.taken with
    | none, c :: rest => if fits c then (apply c s).1.completeCard c rest (apply c s).2 else s
    | _, _ => s

end Sys2Proof.Machine
end

