-- ==== Sys2Proof/Machine/Geometry.lean ====
section
/-! DEFINITION. Bands (R55), effective class (R68), planned time (R89), the deposit arithmetic
(R118, R119) and the judgement of a cell (R122, R123). -/

namespace Sys2Proof.Machine

/-! ### Bands (R55) -/

/-- A rectangle of cells; its coordinates may lie off any grid. -/
structure Band where
  col0 : Int
  col1 : Int
  row0 : Int
  row1 : Int
  deriving DecidableEq, Repr, Inhabited

/-- The band of a PASS or DWELL; a MOVE has none. -/
def Segment.band : Segment → Option Band
  | .pass _ .plusX c r l w _ _ => some ⟨c, c + l - 1, r, r + w - 1⟩
  | .pass _ .minusX c r l w _ _ => some ⟨c - l + 1, c, r, r + w - 1⟩
  | .pass _ .plusY c r l w _ _ => some ⟨c, c + w - 1, r, r + l - 1⟩
  | .pass _ .minusY c r l w _ _ => some ⟨c, c + w - 1, r - l + 1, r⟩
  | .move .. => none
  | .dwell _ c r w _ _ => some ⟨c, c + w - 1, r, r + w - 1⟩

/-- The nominal band size N: L × W for a PASS, W × W for a DWELL. -/
def Segment.nominalSize : Segment → Nat
  | .pass _ _ _ _ l w _ _ => l * w
  | .move .. => 0
  | .dwell _ _ _ w _ _ => w * w

/-- The trim T of a segment (R54). -/
def Segment.trim : Segment → Nat
  | .pass _ _ _ _ _ _ t _ => t
  | .move .. => 0
  | .dwell _ _ _ _ t _ => t

/-- The coordinates in 0 to n-1 that lie in lo-hi. -/
def span (lo hi : Int) (n : Nat) : List Nat :=
  (List.range n).filter fun i => decide (lo ≤ (i : Int)) && decide ((i : Int) ≤ hi)

/-- Cells as (column, row), in row-major order: lowest row first, and within a row lowest column. -/
def rowMajor (columns rows : List Nat) : List (Nat × Nat) :=
  rows.flatMap fun r => columns.map fun c => (c, r)

/-- The on-grid cells of a band on a recipe's grid, in row-major order (R55). -/
def Recipe.onGrid (r : Recipe) (b : Band) : List (Nat × Nat) :=
  rowMajor (span b.col0 b.col1 r.columns) (span b.row0 b.row1 r.rows)

/-- Every cell of the grid, in row-major order. -/
def Recipe.allCells (r : Recipe) : List (Nat × Nat) :=
  rowMajor (List.range r.columns) (List.range r.rows)

/-- The on-grid band cells of a segment; none for a MOVE. -/
def Recipe.bandCells (r : Recipe) (g : Segment) : List (Nat × Nat) :=
  match g.band with
  | none => []
  | some b => r.onGrid b

/-! ### Zones and effective class (R63, R68) -/

/-- A zone covers a cell. -/
def Zone.covers (z : Zone) (cell : Nat × Nat) : Bool :=
  decide (z.col0 ≤ cell.1) && decide (cell.1 ≤ z.col1) && decide (z.row0 ≤ cell.2) && decide (cell.2 ≤ z.row1)

/-- The number of MASKED zones of a recipe (R63). -/
def Recipe.maskCount (r : Recipe) : Nat := (r.zones.filter fun z => z.cls == .masked).length

/-- The class a zone gives to the cells it covers; `m` is the mask index of a MASKED zone. -/
def Zone.gives (z : Zone) (results : Vector MaskResult 8) (m : Nat) : CellClass :=
  match z.cls with
  | .keepOut => .keepOut
  | .masked => if results.toList.getD m .unread == .present then .masked else .keepOut
  | .thin => .thin
  | .coat => .coat

/-- The higher of two classes. -/
def CellClass.max (a b : CellClass) : CellClass := if a.rank < b.rank then b else a

/-- The highest class the zones give a cell; `m` is the mask index the next MASKED zone has. -/
def zonesClass (results : Vector MaskResult 8) (cell : Nat × Nat) : Nat → List Zone → CellClass
  | _, [] => .free
  | m, z :: zs =>
    CellClass.max (if z.covers cell then z.gives results m else .free)
      (zonesClass results cell (if z.cls == .masked then m + 1 else m) zs)

/-- The effective class of a cell for a board with these mask results (R68). -/
def Recipe.effectiveClass (r : Recipe) (results : Vector MaskResult 8) (cell : Nat × Nat) : CellClass :=
  zonesClass results cell 0 r.zones

/-- A cell lies in a zone of one of two classes. -/
def Recipe.inZone (r : Recipe) (a b : ZoneClass) (cell : Nat × Nat) : Bool :=
  r.zones.any fun z => (z.cls == a || z.cls == b) && z.covers cell

/-- The first KEEP_OUT cell of a segment's on-grid band, in row-major order (R87). -/
def Recipe.firstKeepOut (r : Recipe) (results : Vector MaskResult 8) (g : Segment) :
    Option (Nat × Nat) :=
  (r.bandCells g).find? fun cell => r.effectiveClass results cell == .keepOut

/-- The segments of the static conflict report: the indexes whose band touches a KEEP_OUT zone
(R65). -/
def Recipe.conflicts (r : Recipe) (segments : List Segment) : List Nat :=
  (List.range segments.length).filter fun i =>
    match segments[i]? with
    | none => false
    | some g => (r.bandCells g).any fun cell => r.inZone .keepOut .keepOut cell

/-! ### Planned time (R89) -/

/-- Quotient rounded up. -/
def ceilDiv (a b : Nat) : Nat := (a + b - 1) / b

/-- The planned time of a segment, ms. -/
def Segment.planned : Segment → Nat
  | .pass _ _ _ _ l _ _ speed => ceilDiv (l * 2000) speed
  | .move .. => 3000
  | .dwell _ _ _ _ _ time => time

/-! ### Deposit arithmetic (R91, R118, R119) -/

/-- The valve time: modulo 2^32, clamped to 1-65535 ms (R91). -/
def valveTime (start stop : Time) : Nat := max 1 (min 65535 (stop - start).toNat)

/-- The duty k: the number of set bits of the slot mask (R48). -/
def duty (mask : Byte) : Nat := ((List.range 8).filter fun i => mask.getLsbD i).length

/-- The effective pressure (R118). -/
def effectivePressure (sum count pre nominal : Nat) : Nat :=
  min (if 1 ≤ count then sum / count else pre) (3 * nominal / 2)

/-- The thickness increment d, in fu (R119). -/
def increment (flow time k pressure efficiency trim nominal size : Nat) : Nat :=
  let num := flow * time * k * pressure * efficiency * trim
  let den := 32000 * nominal * size
  min Config.maxFilm ((num + den / 2) / den)

/-- The increment of a segment on an applicator. -/
def Applicator.increment (a : Applicator) (g : Segment) (time sum count pre : Nat) : Nat :=
  Machine.increment a.flow time (duty a.slotMask) (effectivePressure sum count pre a.nominal) a.efficiency g.trim
    a.nominal g.nominalSize

/-- A cell after a deposit: MASKED cells keep their film, the others saturate at 4095 (R120). -/
def depositCell (cls : CellClass) (old d : Nat) : Nat :=
  match cls with
  | .masked => old
  | .keepOut => old
  | _ => min Config.maxFilm (old + d)

/-! ### Map cells in exchange memory (R24, R124) -/

/-- Where the cell at (column, row) of a frame lies. -/
def cellAt (f : FrameId) (cell : Nat × Nat) : Nat :=
  0x14000 + 6144 * f.val + 128 * cell.2 + 2 * cell.1

/-- The wet thickness of a cell. -/
def Memory.cell (m : Memory) (f : FrameId) (cell : Nat × Nat) : Nat :=
  (m.read (cellAt f cell)).toNat + 256 * (m.read (cellAt f cell + 1)).toNat

/-- Memory with a cell written. -/
def Memory.setCell (m : Memory) (f : FrameId) (cell : Nat × Nat) (v : Nat) : Memory :=
  m.writeBytes (cellAt f cell) (le16 v)

/-- An offset lies in a frame, in a cell that satisfies `p`. -/
def inFrame (f : FrameId) (p : Nat × Nat → Bool) (a : Nat) : Bool :=
  let base := 0x14000 + 6144 * f.val
  decide (base ≤ a) && decide (a < base + 6144) && p ((a - base) % 128 / 2, (a - base) / 128)

/-! ### Judging a cell (R122, R123) -/

/-- The judgement of a cell at evaluation. -/
inductive Judgement where
  | good
  | thin
  | thick
  deriving DecidableEq, Repr, Inhabited

/-- The judgement against a window in dry fu (R123). -/
def judgeFilm (wet solids lo hi : Nat) : Judgement :=
  if wet = Config.maxFilm then .thick
  else if wet * solids / 100 < lo then .thin
  else if hi < wet * solids / 100 then .thick
  else .good

/-- The judgement of a cell by its effective class: THIN and COAT cells are judged (R122). -/
def Recipe.judgeCell (r : Recipe) (cls : CellClass) (wet solids : Nat) : Judgement :=
  match cls with
  | .thin => judgeFilm wet solids r.thinMin r.thinMax
  | .coat => judgeFilm wet solids r.coatMin r.coatMax
  | _ => .good

/-- What an evaluation finds: thin and thick counts and the first failing cell. -/
structure Evaluation where
  thin : Nat
  thick : Nat
  first : Option (Nat × Nat)
  deriving DecidableEq, Repr, Inhabited

/-- One cell's judgement added to an evaluation. -/
def Evaluation.add (e : Evaluation) (cell : Nat × Nat) (j : Judgement) : Evaluation :=
  match j with
  | .good => e
  | .thin => ⟨e.thin + 1, e.thick, e.first.or (some cell)⟩
  | .thick => ⟨e.thin, e.thick + 1, e.first.or (some cell)⟩

/-- The evaluation of a frame under a recipe, for a board with these mask results (R122, R123). -/
def Recipe.evaluate (r : Recipe) (results : Vector MaskResult 8) (solids : Nat) (m : Memory) (f : FrameId) :
    Evaluation :=
  r.allCells.foldl
    (fun e cell => e.add cell (r.judgeCell (r.effectiveClass results cell) (m.cell f cell) solids)) ⟨0, 0, none⟩

end Sys2Proof.Machine
end

