-- ==== Sys2Proof/Machine/Coverage.lean ====
section
/-! DEFINITION. The Coverage Unit: frames made ACTIVE, reclaimed, retained and freed (R109-R116), the
deposit of a segment (R120) and the evaluation at path end (R122, R123). -/

namespace Sys2Proof.Machine

/-- All frames, lowest number first. -/
def allFrames : List FrameId := List.finRange 8

/-- The lowest-numbered FREE frame (R110). -/
def State.freeFrame (s : State) : Option FrameId :=
  allFrames.find? fun f => s.coverage.frames[f].state == .free

/-- The RETAINED frame a board's record names (R111). -/
def State.retainedFrame (s : State) (t : Tag) : Option FrameId :=
  match (s.record t).mapFrame with
  | none => none
  | some f => if s.coverage.frames[f].state == .retained then some f else none

/-- The boards whose maps may be reclaimed, in the order of R111: the held boards in hold order, then
the cool list, the oven list and the flash-off list, each from its head. -/
def State.reclaimOrder (s : State) : List Tag :=
  s.holdOrder ++ s.tracker.cool.map (·.tag) ++ s.cure.oven ++ s.tracker.flashOff.map (·.tag)

/-- The board that gives up its map, and the frame (R111). -/
def State.reclaimed (s : State) : Option (Tag × FrameId) :=
  s.reclaimOrder.findSome? fun t => (s.retainedFrame t).map fun f => (t, f)

/-- Zeroes a frame's cells that satisfy a condition (R112, R116). -/
def State.zeroCells (f : FrameId) (p : Nat × Nat → Bool) (s : State) : State :=
  { s with exchange := { s.exchange with mem := s.exchange.mem.clearWhere (inFrame f p) } }

/-- Zeroes a frame and makes it ACTIVE for a board, which then names it (R112). -/
def State.takeFrame (f : FrameId) (t : Tag) (s : State) : State :=
  ((s.zeroCells f fun _ => true).setFrame f ⟨.active, some t, some (s.record t).pass⟩).modifyRecord t fun b =>
    { b with mapFrame := some f }

/-- A frame made ACTIVE for the board entering the cell (R110, R111). With no frame to give, which R109
rules out, the board gets none (DESIGN CHOICE, notes/assumptions/10.md). -/
def State.allocate (t : Tag) (s : State) : State :=
  match (s.record t).mapFrame with
  | some f => s.setFrame f { s.coverage.frames[f] with state := .active }
  | none =>
    match s.freeFrame with
    | some f => s.takeFrame f t
    | none =>
      match s.reclaimed with
      | some (o, f) =>
        ((s.modifyRecord o fun b => { b with mapFrame := none }).takeFrame f t).append
          (.mapReclaimed f o .sprayStart)
      | none => s

/-- An ACTIVE frame becomes RETAINED with the same owner and pass (R113). -/
def FrameEntry.retain (e : FrameEntry) : FrameEntry :=
  if e.state = .active then { e with state := .retained } else e

/-- CELL_TO_FLASH done: the ACTIVE frame becomes RETAINED (R105, R113); at most one frame is ACTIVE, and
every ACTIVE one is meant (DEDUCED, notes/assumptions/26.md). -/
def State.retainActive (s : State) : State :=
  { s with coverage := { s.coverage with frames := s.coverage.frames.map FrameEntry.retain } }

/-- A line clear: the ACTIVE frame, and every RESERVED frame that has an owner, become RETAINED
(R113, R174). -/
def FrameEntry.clear (e : FrameEntry) : FrameEntry :=
  match e.state, e.owner with
  | .active, _ => { e with state := .retained }
  | .reserved, some _ => { e with state := .retained }
  | _, _ => e

/-- MASK_TO_LANE done for a recoat board: its RESERVED frame becomes RETAINED (R79). -/
def State.retainReserved (t : Tag) (s : State) : State :=
  match (s.record t).mapFrame with
  | none => s
  | some f =>
    if s.coverage.frames[f].state = .reserved then
      s.setFrame f { s.coverage.frames[f] with state := .retained, owner := some t }
    else s

/-- The frame a board's record names, where it is RETAINED with this owner (R152, R161). -/
def State.ownedFrame (s : State) (t : Tag) : Option FrameId :=
  match s.retainedFrame t with
  | none => none
  | some f => if s.coverage.frames[f].owner = some t then some f else none

/-- A board's RETAINED frame becomes FREE; its cells are kept (R114). -/
def State.freeOwned (t : Tag) (s : State) : State :=
  match s.ownedFrame t with
  | none => s
  | some f => s.setFrame f .free

/-- The deposit of one segment on the board's frame, row by row (R117-R120). -/
def State.deposit (t : Tag) (g : Segment) (a : ApplicatorId) (time sum count pre : Nat) (s : State) : State :=
  match (s.record t).mapFrame with
  | none => s
  | some f =>
    let recipe := s.boardRecipe t
    let results := (s.record t).maskResults
    let d := (s.applicator a).increment g time sum count pre
    let put (m : Memory) (cell : Nat × Nat) : Memory :=
      m.setCell f cell (depositCell (recipe.effectiveClass results cell) (m.cell f cell) d)
    { s with
      exchange := { s.exchange with mem := (recipe.bandCells g).foldl put s.exchange.mem } }

/-- What the evaluation of a board's map finds at this moment (R122, R123). -/
def State.evaluation (s : State) (t : Tag) : Evaluation :=
  (s.boardRecipe t).evaluate (s.record t).maskResults (s.boardCoating t).solids s.exchange.mem
    ((s.record t).mapFrame.getD Config.missingFrame)

/-- The evaluation written to the record (R123). -/
def BoardRecord.evaluated (e : Evaluation) (b : BoardRecord) : BoardRecord :=
  (({ b with thinCells := e.thin, thickCells := e.thick, firstFailing := e.first }).addReasonIf (decide (0 < e.thin))
    .filmThin).addReasonIf (decide (0 < e.thick)) .filmThick

/-- A recipe accepted under an id: in every RETAINED frame whose owner's valid record carries the id,
the cells in a KEEP_OUT or MASKED zone or beyond the grid become 0 (R116). -/
def State.zeroForRecipe (id : RecipeId) (r : Recipe) (s : State) : State :=
  let barred (cell : Nat × Nat) : Bool :=
    decide (r.columns ≤ cell.1) || decide (r.rows ≤ cell.2) || r.inZone .keepOut .masked cell
  let named (f : FrameId) : Bool :=
    match s.coverage.frames[f] with
    | ⟨.retained, some t, _⟩ => (s.record t).valid && (s.record t).recipe == id
    | _ => false
  (allFrames.filter named).foldl (fun s f => s.zeroCells f barred) s

end Sys2Proof.Machine
end

