-- ==== Sys2Proof/Machine/Spray.lean ====
section
/-! DEFINITION. The Spray Sequencer's shared operations: cell state changes, sending and fetching a
segment, aborts, path end, spray start, leaving PAUSED, and the cell's answer to a mode change
(R83-R104). -/

namespace Sys2Proof.Machine

/-- Changes the Spray Sequencer's own items. -/
def State.mapSequencer (f : Sequencer → Sequencer) (s : State) : State :=
  { s with sequencer := f s.sequencer }

/-- Changes the cell state and appends CELL_STATE, with the tag of the cell board after the change, or
0xFF for a change into IDLE (R83). -/
def State.setCell (new : CellState) (cause : Option StopCause) (s : State) : State :=
  let old := s.sequencer.cell
  (s.mapSequencer fun q => { q with cell := new }).append
    (.cellState (if new = .idle then none else s.cellBoard) new old cause)

/-- The monitor of an applicator. -/
def State.monitor (s : State) (a : ApplicatorId) : Monitor := s.sequencer.monitors[a]

/-- Changes one monitor. -/
def State.mapMonitor (a : ApplicatorId) (f : Monitor → Monitor) (s : State) : State :=
  s.mapSequencer fun q => { q with monitors := q.monitors.set a (f q.monitors[a]) }

/-- The pressure check of R88: WARN in any state, INTERLOCK in IN_BAND. -/
def State.pressureReady (s : State) (a : ApplicatorId) : Bool :=
  (s.applicator a).mode == .warn || (s.monitor a).state == .inBand

/-- Sends the held segment: SEG_RUN, the segment deadline, phase SENT (R89). -/
def State.sendSegment (t : Tag) (s : State) : State :=
  match s.sequencer.segment with
  | none => s
  | some h =>
    let head := match h.record.applicator with
      | none => ApplicatorKind.needle
      | some a => (s.applicator a).kind
    (s.mapSequencer fun q =>
      { q with phase := .sent, deadline := some (s.lineTime + word (2 * h.record.planned + 500)) }).send
      (.segRun t s.sequencer.index h.record h.dryRun head)

/-- The segment the Table Store returns for index i of a program: the replacement record of the enabled
patch entry naming it, or the stored segment (R61). -/
def State.fetched (s : State) (p : ProgramId) (i : Nat) : Segment :=
  match s.tables.patches.toList.findSome? (fun e => match e with
      | none => none
      | some e => if e.enabled && e.program == p && e.index == i then some e.segment else none) with
  | some g => g
  | none => (s.tables.programs[p].segments[i]?).getD Config.missingSegment

/-- The flash-off items set at path end (R126). -/
def flashItems (now : Time) (c : Coating) : FlashItems where
  flashDeadline := if c.flashMin = 0 then none else some (now + word (1000 * c.flashMin))
  done := c.flashMin == 0
  openDeadline := some (now + word (1000 * c.openMax))

/-- The path of the cell board ends: spray end time, evaluation, flash-off items, PATH_DONE, and the
cell UNLOADING (R104, R126). -/
def State.pathEnd (t : Tag) (ended : PathEnd) (s : State) : State :=
  let e := s.evaluation t
  let s1 := s.modifyRecord t fun b => { b.evaluated e with sprayEnd := some s.lineTime }
  let s2 := { s1 with
    tracker := { s1.tracker with
      flash := s1.tracker.flash.set t (some (flashItems s.lineTime (s.boardCoating t))) } }
  let fetchedCount := match (s.record t).lastSegment with
    | none => 0
    | some i => i + 1
  let s3 := s2.append (.pathDone t fetchedCount ended e.thin e.thick)
  (s3.mapSequencer fun q => { q with stopCause := none, stopApplicator := none }).setCell .unloading none

/-- A keep-out conflict written to the record (R87). -/
def BoardRecord.conflict (i : Nat) (b : BoardRecord) : BoardRecord :=
  { b.addReason .keepOutConflict with
    conflicts := b.conflicts + 1
    firstConflict := b.firstConflict.or (some i) }

/-- A wet segment held after its keep-out check: it is sent, or waits INTERLOCKED (R88). -/
def State.pressureCheck (t : Tag) (a : ApplicatorId) (s : State) : State :=
  if s.pressureReady a then s.sendSegment t
  else (s.mapSequencer fun q => { q with phase := .waiting }).setCell .interlocked none

/-- Fetches the segment at the present index, judges it, and sends it, holds it, or ends the path
(R86-R88). -/
def State.fetch (t : Tag) (s : State) : State :=
  let recipe := s.boardRecipe t
  let i := s.sequencer.index
  let g := s.fetched recipe.program i
  let s1 := (s.modifyRecord t fun b => { b with lastSegment := some i }).mapSequencer fun q =>
    { q with segment := some ⟨g, false⟩ }
  match g.applicator with
  | none => s1.sendSegment t
  | some a =>
    match recipe.firstKeepOut (s.record t).maskResults g with
    | none => s1.pressureCheck t a
    | some cell =>
      let s2 := (s1.modifyRecord t (BoardRecord.conflict i)).append
        (.segmentConflict t i recipe.conflictPolicy cell.1 cell.2)
      match recipe.conflictPolicy with
      | .dryRun => (s2.mapSequencer fun q => { q with segment := some ⟨g, true⟩ }).sendSegment t
      | .stopBoard => (s2.mapSequencer fun q => { q with segment := none }).pathEnd t .stopBoard

/-- Closes the open valve (R97 step 1). -/
def State.closeValve (s : State) : State :=
  match s.sequencer.valve with
  | none => s
  | some a =>
    (s.mapSequencer fun q => { q with valve := none, valveStart := none }).send (.valveClose a)

/-- Discards the held segment with its sample sum and count, which become 0 (R97 step 3; DEDUCED,
notes/assumptions/22.md). -/
def State.dropSegment (s : State) : State :=
  let s1 := match s.sequencer.segment.bind HeldSegment.wet with
    | none => s
    | some a => s.mapMonitor a fun m => { m with sum := 0, count := 0 }
  s1.mapSequencer fun q => { q with segment := none, phase := .none, deadline := none }

/-- An abort of the cell (R97); `a` is the segment's applicator, for cause PRESSURE. -/
def State.abort (cause : StopCause) (a : Option ApplicatorId) (s : State) : State :=
  let s1 := (s.closeValve.send .halt).dropSegment
  let s2 := match s.cellBoard with
    | none => s1
    | some t => s1.modifyRecord t (BoardRecord.addReason .sprayIncomplete)
  (s2.mapSequencer fun q => { q with stopCause := some cause, stopApplicator := a }).setCell .stopped
    (some cause)

/-- Aborts a RUNNING or INTERLOCKED cell (R96, R99). -/
def State.abortActive (cause : StopCause) (s : State) : State :=
  match s.sequencer.cell with
  | .running | .interlocked => s.abort cause none
  | _ => s

/-- The cell leaves PAUSED, with the mode RUN or DRAIN and the guard CLOSED (R102). -/
def State.leavePaused (s : State) : State :=
  match s.cellBoard with
  | none => s
  | some t =>
    if s.sequencer.cell = .paused ∧ s.line.mode.spraying = true ∧ s.sequencer.guard = .closed then
      match s.sequencer.segment.bind HeldSegment.wet with
      | none => (s.setCell .running none).fetch t
      | some a =>
        if s.pressureReady a then (s.setCell .running none).sendSegment t
        else s.setCell .interlocked none
    else s

/-- The cell's answer to the mode as it now stands (R99, R101, R102). -/
def State.cellOnMode (s : State) : State :=
  match s.line.mode with
  | .freeze => if s.sequencer.cell = .interlocked then s.setCell .paused none else s
  | .run | .drain => s.leavePaused
  | .faulted => s.abortActive .motion
  | _ => s

/-- Spray start (R85): the board is the cell board; its spray start time, its frame and the cell state
are set. LOST and READY, in which no transfer into the cell is in flight, act as RUN (DESIGN CHOICE,
notes/assumptions/9.md). -/
def State.sprayStart (t : Tag) (s : State) : State :=
  let s1 := s.mapSequencer fun q => { q with index := 0, segment := none, phase := .none }
  let s2 := (s1.modifyRecord t fun b => { b with sprayStart := some s.lineTime }).allocate t
  match s.line.mode with
  | .faulted =>
    (((s2.modifyRecord t (BoardRecord.addReason .sprayIncomplete)).send .halt).mapSequencer fun q =>
      { q with stopCause := some .motion }).setCell .stopped (some .motion)
  | .freeze => s2.setCell .paused none
  | _ =>
    if s.sequencer.guard = .closed then (s2.setCell .running none).fetch t else s2.setCell .paused none

end Sys2Proof.Machine
end

