-- ==== Sys2Proof/Machine/Line.lean ====
section
/-! DEFINITION. The Line Mode Controller's shared operations: a change of the line mode (R169), the line
empty report (R170), faults (R171, R172), and host requests in LINE_CTL (R168). -/

namespace Sys2Proof.Machine

/-- The mode as it stands is handed to the blocks that act on it (R169 step 3). -/
def State.handMode (s : State) : State := s.driveLoader.cellOnMode.driveGate

/-- A change of the line mode, as one event (R169). -/
def State.changeMode (new : LineMode) (s : State) : State :=
  let old := s.line.mode
  ({ s with line := { s.line with mode := new } }.append (.lineMode new old none)).handMode

/-- The Board Tracker's line empty report: it ends DRAIN, and is ignored in every other mode (R11,
R170). -/
def State.reportEmpty (s : State) : State :=
  if s.line.mode = .drain ∧ s.lineEmpty = true then s.changeMode .ready else s

/-- A fault raised in a mode in which it is the first fault (R171). -/
def LineMode.firstFaults : LineMode → Bool
  | .ready | .run | .freeze | .drain => true
  | .lost | .faulted => false

/-- A fault raised to the Line Mode Controller: the first fault (R171), or a later one (R172). -/
def State.raiseFault (code : FaultCode) (route : Option Route) (tag : Option Tag) (cause : Nat) (s : State) :
    State :=
  let old := s.line.mode
  if old.firstFaults then
    ((({ s with line := ⟨.faulted, some code⟩ }.setAttn attnFault).append (.fault code true route tag cause)).append
      (.lineMode .faulted old none)).handMode
  else s.append (.fault code false route tag cause)

/-- A requested mode is taken from the present mode (R168). -/
def State.takesRequest (s : State) (new : LineMode) : Bool :=
  match s.line.mode, new with
  | .ready, .run => s.tables.oven.isSome
  | .freeze, .run => true
  | .drain, .run => true
  | .run, .freeze => true
  | .run, .drain => true
  | .freeze, .drain => true
  | _, _ => false

/-- A host request for a mode: taken under R169, or dropped with ATTN.REFUSED. A DRAIN taken while the
line is empty reaches READY in the same event (R168, R170). -/
def State.requestMode (new : LineMode) (s : State) : State :=
  if s.takesRequest new then (s.changeMode new).reportEmpty else s.setAttn attnRefused

end Sys2Proof.Machine
end

