-- ==== Sys2Proof/Machine/Boards.lean ====
section
/-! DEFINITION. The Board Tracker and the Mask Verifier: ADMIT and WITHDRAW, arrivals, mask
verification, and the station transfers with their completions and faults (chapters 1, 4 and 9). -/

namespace Sys2Proof.Machine

/-! ### ADMIT and WITHDRAW (R2, R3) -/

/-- Changes the Board Tracker's own items. -/
def State.mapTracker (f : Tracker → Tracker) (s : State) : State := { s with tracker := f s.tracker }

/-- A serial stands in the admission list or in a valid record (R2 step 4). -/
def State.knownSerial (s : State) (serial : Serial) : Bool :=
  s.tracker.admissions.any (fun a => a.serial == serial)
    || allTags.any fun t => (s.record t).valid && (s.record t).serial == serial

/-- The checks of an ADMIT card, in order (R2). -/
def State.admitChecks (s : State) (c : TakenCard) : List Check :=
  [ (s.line.mode == .lost || s.line.mode == .faulted, result .refusedState []),
    (c.badLength 9, refusedAt 8),
    rangeCheck 24 (c.u8 24) 0 15,
    ((s.tables.recipes[Fin.ofNat 16 (c.u8 24)]).isNone, result .refusedUnknown []),
    (s.knownSerial (c.u64 16), result .refusedDuplicate []),
    (decide (Config.admissionCapacity ≤ s.tracker.admissions.length), result .refusedFull []) ]

/-- An accepted ADMIT: the entry joins the tail, with pass 1 and no reserved frame (R2). -/
def TakenCard.admitted (c : TakenCard) : Admission := ⟨c.u64 16, Fin.ofNat 16 (c.u8 24), 1, none⟩

/-- ADMIT (R2). -/
def applyAdmit (c : TakenCard) (s : State) : State × CardResult :=
  judge (s.admitChecks c)
    (fun s => (s.mapTracker fun k => { k with admissions := k.admissions ++ [c.admitted] },
      result .ok [s.tracker.admissions.length + 1, s.freeTags.length])) s

/-- ADMIT: the next taken card, of kind 8 (R2). -/
def execAdmit (s : State) : Host.Outcome State Fault Refusal :=
  .next (s.processCard (TakenCard.isKind 8) applyAdmit)

/-- The first admission entry that carries a serial. -/
def findAdmission (serial : Serial) (l : List Admission) : Option Admission :=
  l.find? fun a => a.serial == serial

/-- The list without the first entry that carries a serial; the others keep their order. -/
def removeAdmission (serial : Serial) (l : List Admission) : List Admission :=
  l.eraseP fun a => a.serial == serial

/-- WITHDRAW (R3): the entry leaves the list, and its reserved frame becomes FREE. -/
def applyWithdraw (c : TakenCard) (s : State) : State × CardResult :=
  judge [(c.badLength 8, refusedAt 8)]
    (fun s =>
      match findAdmission (c.u64 16) s.tracker.admissions with
      | none => (s, result .refusedUnknown [])
      | some a =>
        let s1 := s.mapTracker fun k => { k with admissions := removeAdmission (c.u64 16) k.admissions }
        (match a.frame with
          | none => s1
          | some f => s1.setFrame f .free,
          ⟨.ok, [word a.recipe.val, wordOrNone (a.frame.map (·.val))]⟩)) s

/-- WITHDRAW: the next taken card, of kind 9 (R3). -/
def execWithdraw (s : State) : Host.Outcome State Fault Refusal :=
  .next (s.processCard (TakenCard.isKind 9) applyWithdraw)

/-! ### Mask verification (R70-R75) -/

/-- Whether the first n results are all PRESENT. -/
def allPresent (results : Vector MaskResult 8) (n : Nat) : Bool :=
  (List.range n).all fun i => results.toList.getD i .unread == .present

/-- Whether one of the first n results is UNREAD. -/
def anyUnread (results : Vector MaskResult 8) (n : Nat) : Bool :=
  (List.range n).any fun i => results.toList.getD i .unread == .unread

/-- The outcome of a verification (R74). -/
def maskOutcome (policy : MaskPolicy) (results : Vector MaskResult 8) (n : Nat) : MaskOutcome :=
  if allPresent results n then .pass
  else match policy with
    | .reject => .reject
    | .sprayAround => .pass

/-- Completion of the verification of a board with n masks (R74). -/
def State.completeVerification (t : Tag) (n : Nat) (s : State) : State :=
  let outcome := maskOutcome (s.boardRecipe t).maskPolicy (s.record t).maskResults n
  let s1 := s.modifyRecord t (BoardRecord.addReasonIf (outcome == .reject) .maskMissing)
  { s1 with verifier := ⟨.idle, outcome⟩ }.append (.maskDone t outcome (s.record t).maskResults)

/-- A newly matched board handed to the Mask Verifier (R71). -/
def State.startVerification (t : Tag) (s : State) : State :=
  let recipe := s.boardRecipe t
  if recipe.maskCount = 0 then s.completeVerification t 0
  else
    { s with
      verifier := ⟨.verifying t recipe.maskCount (s.lineTime + word recipe.verifyTimeout), .none⟩ }.send
      (.inspect recipe.maskCount)

/-- The value byte of a MASK_RESULT (section 11.3). -/
def maskValueOf (b : Byte) : Option MaskResult :=
  match b.toNat with
  | 1 => some .present
  | 2 => some .absent
  | _ => none

/-- A delivered MASK_RESULT (R72). -/
def State.takeMaskResult (index : Byte) (value : MaskResult) (s : State) : State :=
  match s.verifier.verification with
  | .idle => s
  | .verifying t n _ =>
    if index.toNat < n ∧ index.toNat < 8 then
      let s1 := s.modifyRecord t fun b =>
        { b with maskResults := b.maskResults.set (Fin.ofNat 8 index.toNat) value }
      if anyUnread (s1.record t).maskResults n then s1 else s1.completeVerification t n
    else s

/-- The verification deadline's expiry (R73). -/
def State.expireVerification (s : State) : State :=
  match s.verifier.verification with
  | .idle => s
  | .verifying t n d => if reached d s.lineTime then s.completeVerification t n else s

/-! ### Arrivals (R5, R6) -/

/-- The record of a board matched to an admission entry at line time `now` (R6). -/
def BoardRecord.create (a : Admission) (now : Time) (seed : Nat) : BoardRecord :=
  { BoardRecord.blank with
    written := true
    valid := true
    stage := .maskCheck
    pass := a.pass
    serial := a.serial
    recipe := a.recipe
    mapFrame := a.frame
    admittedTime := some now
    seed := seed }

/-- A reserved frame receives its owner at the match (R6, R109). -/
def State.ownReserved (t : Tag) (f : Option FrameId) (s : State) : State :=
  match f with
  | none => s
  | some f => s.setFrame f { s.coverage.frames[f] with owner := some t }

/-- A matched arrival (R6). LOADER_READY goes out ahead of INSPECT (DEDUCED, notes/assumptions/16.md). -/
def State.matchArrival (t : Tag) (a : Admission) (s : State) : State :=
  let s1 := s.mapTracker fun k =>
    { k with admissions := removeAdmission a.serial k.admissions }
  let s2 := (({ s1 with freeCount := s.freeCount + 1 }.setRecord t
    (BoardRecord.create a s.lineTime s.freeCount)).ownReserved t a.frame).mapTracker fun k =>
      { k with mask := joinTail k.mask t }
  ((s2.driveLoader.append (.boardAdmitted t a.serial a.pass))).startVerification t

/-- A delivered ARRIVAL: NO_READ, or a serial (R5). -/
def State.takeArrival (serial : Option Serial) (s : State) : State :=
  let shown := serial.getD 0
  if s.loaderCondition then
    match serial with
    | none => s.append (.arrivalRefused .noRead 0)
    | some n =>
      match findAdmission n s.tracker.admissions with
      | none => s.append (.arrivalRefused .unknownSerial n)
      | some a =>
        match s.freeTags with
        | [] => s
        | t :: _ => s.matchArrival t a
  else s.append (.arrivalRefused .notReady shown)

/-! ### Transfer start (R16, R17) -/

/-- Starts the transfer of the head of a route's source list: the in-transit mark, the route, the
deadline and TRANSFER (R17). -/
def State.beginTransfer (r : Route) (slot : Nat) (s : State) : State :=
  (s.mapTracker fun k =>
    (k.setSource r (markHead (k.source r))).setRoute r (.inFlight (s.lineTime + Config.transferTime) slot)).send
    (.transfer r slot)

/-- The slot a transfer into a hold position takes: the lowest FREE one of its kind (R77, R153). -/
def State.slotFor (s : State) : Route → Option SlotId
  | .maskToLane => s.freeLane
  | .coolToSpur => s.freeSpur
  | _ => none

/-- The slot operand of TRANSFER (R15). -/
def slotOperand (n : SlotId) : Nat := (Location.slot n).slotCode

/-- The start of a route for the board it carries: a hold slot is RESERVED first, and INFEED_TO_CELL
puts the cell in LOADING (R17, R77, R84, R153). -/
def State.startRoute (r : Route) (t : Tag) (s : State) : State :=
  let s1 := match s.slotFor r with
    | none => s.beginTransfer r 0
    | some n => (s.setSlot n (.reserved t)).beginTransfer r (slotOperand n)
  (if r = .infeedToCell then s1.mapSequencer fun q => { q with cell := .loading } else s1).driveGate

/-- The board that a route would carry now: the route is IDLE and its conditions hold (R16). -/
def State.startable (s : State) (r : Route) : Option Tag :=
  if s.tracker.route r = .idle then
    match s.carried r with
    | none => none
    | some t => if s.routeCondition r t then some t else none
  else none

/-- TRANSFER_START: where the route's start conditions hold, its transfer starts; otherwise the command
names no event, and nothing happens (R16, R17; DESIGN CHOICE, notes/assumptions/2.md and 15.md). -/
def execTransferStart (r : Route) (s : State) : Host.Outcome State Fault Refusal :=
  .next (s.live fun s => match s.startable r with
    | none => s
    | some t => s.startRoute r t)

/-! ### Transfer completions (R18) -/

/-- Cancels the route and takes the carried board from the head of its source list (R18). -/
def State.endTransfer (r : Route) (s : State) : State :=
  s.mapTracker fun k => (k.setSource r (k.source r).tail).setRoute r .idle

/-- The divert decision for the board that has become head of the cool list (R151). -/
def State.divert (s : State) : State :=
  match headTag s.tracker.cool with
  | none => s
  | some t =>
    s.modifyRecord t fun b => { b with verdict := if b.reasons = 0 then .pass else .hold }

/-- MASK_TO_INFEED done (R18, R75). -/
def State.doneMaskToInfeed (t : Tag) (s : State) : State :=
  ({ ((s.mapTracker fun k => { k with infeed := joinTail k.infeed t }).modifyRecord t fun b =>
      { b with stage := .waitSpray }) with
    verifier := { s.verifier with outcome := .none } }).driveLoader

/-- MASK_TO_LANE done, with the slot the board was carried to (R78). -/
def State.doneMaskToLane (t : Tag) (n : SlotId) (s : State) : State :=
  let s1 := ((s.modifyRecord t (BoardRecord.hold (.slot n) s.lineTime)).setSlot n (.assigned t)).joinHolds t
  let s2 := (s1.retainReserved t).append (.boardHeld t (.slot n) (s.record t).reasons)
  ({ s2 with verifier := { s2.verifier with outcome := .none } }).driveLoader.reportEmpty

/-- INFEED_TO_CELL done: the tag becomes the spray-cell board, and spray start follows (R18, R85). -/
def State.doneInfeedToCell (t : Tag) (s : State) : State :=
  ((s.mapTracker fun k => { k with cell := joinTail k.cell t }).modifyRecord t fun b =>
    { b with stage := .spraying }).sprayStart t

/-- CELL_TO_FLASH done: the board joins the flash-off list, the cell becomes IDLE and the ACTIVE frame
RETAINED (R18, R105, R129). -/
def State.doneCellToFlash (t : Tag) (s : State) : State :=
  let s1 := (s.mapTracker fun k => { k with flashOff := joinTail k.flashOff t }).modifyRecord t fun b =>
    { b with stage := .flashOff }
  (((s1.mapSequencer fun q => { q with index := 0 }).retainActive).setCell .idle none).driveGate

/-- COOL_TO_EXIT done: the board leaves the line (R152). -/
def State.doneCoolToExit (t : Tag) (s : State) : State :=
  let s1 := (s.freeOwned t).modifyRecord t BoardRecord.release
  ((s1.append (.boardPassed t (s.record t).serial)).divert.driveGate).driveLoader.reportEmpty

/-- COOL_TO_SPUR done, with the slot the board was carried to (R154). -/
def State.doneCoolToSpur (t : Tag) (n : SlotId) (s : State) : State :=
  let s1 := ((s.modifyRecord t (BoardRecord.hold (.slot n) s.lineTime)).setSlot n (.assigned t)).joinHolds t
  ((s1.append (.boardHeld t (.slot n) (s.record t).reasons)).divert.driveGate).reportEmpty

/-- The slot that an operand names on a route into a hold position (R15). -/
def slotOfOperand (r : Route) (slot : Nat) : SlotId :=
  match r with
  | .maskToLane => Fin.ofNat 8 (6 + slot)
  | _ => Fin.ofNat 8 slot

/-- The completion of a route for the carried board (R18). -/
def State.completeRoute (r : Route) (t : Tag) (slot : Nat) (s : State) : State :=
  match r with
  | .maskToInfeed => s.doneMaskToInfeed t
  | .maskToLane => s.doneMaskToLane t (slotOfOperand r slot)
  | .infeedToCell => s.doneInfeedToCell t
  | .cellToFlash => s.doneCellToFlash t
  | .coolToExit => s.doneCoolToExit t
  | .coolToSpur => s.doneCoolToSpur t (slotOfOperand r slot)

/-- A delivered TRANSFER_DONE for a route (R18, R20). A transfer in flight from an empty list, which no run
makes, only ends (DESIGN CHOICE, notes/assumptions/10.md). -/
def State.takeTransferDone (r : Route) (s : State) : State :=
  match s.tracker.route r with
  | .inFlight _ slot =>
    match headTag (s.tracker.source r) with
    | none => s.endTransfer r
    | some t => (s.endTransfer r).completeRoute r t slot
  | _ => s

/-! ### Transfer faults (R19, R20) -/

/-- A transfer in flight ends in a fault: the route becomes FAULTED, and fault TRANSFER is raised
(R19). -/
def State.failTransfer (r : Route) (cause : Nat) (s : State) : State :=
  (s.mapTracker fun k => k.setRoute r .faulted).raiseFault .transfer (some r)
    (headTag (s.tracker.source r)) cause

/-- A delivered TRANSFER_FAULT for a route (R19, R20). -/
def State.takeTransferFault (r : Route) (s : State) : State :=
  match s.tracker.route r with
  | .inFlight _ _ => s.failTransfer r 1
  | _ => s

/-- TRANSFER_DEADLINE_EXPIRY (R19). -/
def execTransferDeadlineExpiry (r : Route) (s : State) : Host.Outcome State Fault Refusal :=
  .next (s.live fun s => match s.tracker.route r with
    | .inFlight d _ => if reached d s.lineTime then s.failTransfer r 2 else s
    | _ => s)

/-- MASK_VERIFY_DEADLINE_EXPIRY (R73). -/
def execMaskVerifyDeadlineExpiry (s : State) : Host.Outcome State Fault Refusal :=
  .next (s.live State.expireVerification)

end Sys2Proof.Machine
end

