-- ==== Sys2Proof/Machine/Cure.lean ====
section
/-! DEFINITION. Flash-off, oven entry, oven samples and silence, oven exit and overrun (chapters 7
and 8). -/

namespace Sys2Proof.Machine

/-- Changes the Cure Tracker's own items. -/
def State.mapCure (f : Cure → Cure) (s : State) : State := { s with cure := f s.cure }

/-- Writes the flash-off items of a board (R125). -/
def State.setFlash (t : Tag) (i : Option FlashItems) (s : State) : State :=
  s.mapTracker fun k => { k with flash := k.flash.set t i }

/-! ### Flash-off and open time (R127, R128) -/

/-- FLASH_OFF_DEADLINE_EXPIRY (R127): flash-off done is set, and a head now ready re-examines the
gate. -/
def execFlashOffDeadlineExpiry (t : Tag) (s : State) : Host.Outcome State Fault Refusal :=
  .next (s.live fun s => match s.tracker.flash[t] with
    | none => s
    | some i =>
      if expired i.flashDeadline s.lineTime then
        let s1 := s.setFlash t (some { i with flashDeadline := none, done := true })
        if headTag s.tracker.flashOff = some t then s1.driveGate else s1
      else s)

/-- OPEN_TIME_DEADLINE_EXPIRY (R21, R128). -/
def execOpenTimeDeadlineExpiry (t : Tag) (s : State) : Host.Outcome State Fault Refusal :=
  .next (s.live fun s => match s.tracker.flash[t] with
    | none => s
    | some i =>
      if expired i.openDeadline s.lineTime then
        (s.setFlash t (some { i with openDeadline := none })).modifyRecord t (BoardRecord.addReason .openTime)
      else s)

/-! ### Entry (R133, R134) -/

/-- The record of a board entering the oven (R133 step 3); one that enters in silence gains
CURE_UNVERIFIED (R141). -/
def BoardRecord.enterOven (now : Time) (sampling : Sampling) (b : BoardRecord) : BoardRecord :=
  { b with stage := .curing, ovenEntry := some now, position := 0, dose := 0 }.addReasonIf
    (sampling == Sampling.silent) .cureUnverified

/-- The flash-off head enters the oven through the open gate (R133). -/
def State.enterOven (t : Tag) (s : State) : State :=
  let s1 := (s.mapTracker fun k => { k with flashOff := k.flashOff.tail }).setFlash t none
  let s2 := (s1.mapCure fun c => { c with oven := c.oven ++ [t] }).modifyRecord t
    (BoardRecord.enterOven s.lineTime s.cure.sampling)
  let s3 := (s2.mapCure fun c => { c with spacing := 0, gate := .closed }).send (.entryGate .closed)
  (s3.append (.ovenEntered t (s.cure.oven.length + 1))).driveGate

/-- A delivered ENTRY_SEEN (R133, R134). -/
def State.takeEntrySeen (s : State) : State :=
  match s.cure.gate, headTag s.tracker.flashOff with
  | .opened, some t => s.enterOven t
  | _, some t => s.raiseFault .unknownAtEntry none (some t) 1
  | _, none => s.raiseFault .unknownAtEntry none none 2

/-! ### Oven samples (R138-R140) -/

/-- A zone reading: a temperature, or the code FAULT for every other value (R139, R183). -/
def readingOf (h : Half) : Option Nat := if h.toNat ≤ 400 then some h.toNat else none

/-- A zone value after a reading (R139). -/
def ZoneValue.take (z : ZoneValue) (reading : Option Nat) : ZoneValue :=
  match reading with
  | some v => ⟨v, 0, true⟩
  | none => ⟨z.value, min 255 (z.stale + 1), z.verified && !(z.stale + 1 == 3)⟩

/-- A zone's reading taken, with ZONE_STATE where the zone's state changes (R139). -/
def State.takeReading (z : Fin 6) (reading : Option Nat) (s : State) : State :=
  let old := s.cure.zones[z]
  let new := old.take reading
  let s1 := s.mapCure fun c => { c with zones := c.zones.set z new }
  if new.verified = old.verified then s1 else s1.append (.zoneState z new.verified new.value)

/-- All zones, in zone order. -/
def allZones : List (Fin 6) := List.finRange 6

/-- The zone of a position: the first whose cumulative end lies beyond it; none in the run-out (R140). -/
def OvenTable.zoneOf (o : OvenTable) (position : Nat) : Option (Fin 6) :=
  allZones.find? fun z => decide (position < o.ends.getD z.val 0)

/-- The weight of a temperature: that of the first cure band whose bound is at or above it, or of
band 7 (R140). -/
def Coating.weight (c : Coating) (temperature : Nat) : Nat :=
  match c.bands.toList.find? fun b => decide (temperature ≤ b.bound) with
  | some b => b.weight
  | none => c.bands[7].weight

/-- A board advanced and dosed by one sample (R140). -/
def BoardRecord.sample (o : OvenTable) (c : Coating) (zones : Vector ZoneValue 6) (delta : Nat) (b : BoardRecord) :
    BoardRecord :=
  let position := min 65535 (b.position + delta)
  match o.zoneOf position with
  | none => { b with position := position, dose := min 65535 b.dose }
  | some z =>
    ({ b with
        position := position
        dose := min 65535 (b.dose + c.weight zones[z].value) }.addReasonIf
      (decide (c.scorch ≤ zones[z].value)) .scorch).addReasonIf (!zones[z].verified) .cureUnverified

/-- A delivered OVEN_SAMPLE, as one event (R138); a delta above 4095 is taken as 4095 (R183). -/
def State.takeOvenSample (readings : Vector Half 6) (delta : Half) (s : State) : State :=
  let d := min 4095 delta.toNat
  let s1 := s.mapCure fun c =>
    { c with sampling := .receiving, silence := some (s.lineTime + Config.ovenSilence) }
  let s2 := allZones.foldl (fun s z => s.takeReading z (readingOf readings[z])) s1
  let s3 := s2.mapCure fun c => { c with spacing := min 65535 (c.spacing + d) }
  let s4 := s3.cure.oven.foldl (fun s t =>
    s.modifyRecord t (BoardRecord.sample s.oven (s.boardCoating t) s.cure.zones d)) s3
  s4.driveGate

/-! ### Oven silence (R141) -/

/-- OVEN_SILENT: the silence deadline expires in RECEIVING (R141). -/
def execOvenSilent (s : State) : Host.Outcome State Fault Refusal :=
  .next (s.live fun s => if s.cure.sampling == .receiving && expired s.cure.silence s.lineTime then
      let s1 := s.mapCure fun c => { c with sampling := .silent, silence := none }
      let s2 := s.cure.oven.foldl (fun s t => s.modifyRecord t (BoardRecord.addReason .cureUnverified)) s1
      s2.append (.ovenSilent s.cure.oven.length)
    else s)

/-! ### Exit (R142-R146) -/

/-- The absolute difference of two counts. -/
def distance (a b : Nat) : Nat := if a ≤ b then b - a else a - b

/-- The judgement of an exiting board, its exit time, recoat deadline and recoat open flag (R143). -/
def BoardRecord.judgeExit (o : OvenTable) (c : Coating) (now : Time) (b : BoardRecord) : BoardRecord :=
  { ((b.addReasonIf (decide (o.tolerance < distance b.position o.total)) .trackingMismatch).addReasonIf
        (decide (b.dose < c.doseMin)) .undercure).addReasonIf (decide (c.doseMax < b.dose)) .overcure with
    ovenExit := some now
    recoatDeadline := some (now + word (60000 * c.recoatWindow))
    recoatOpen := true }

/-- The exiting board joins the cool list (R144). -/
def State.exitToCool (t : Tag) (s : State) : State :=
  let empty := s.tracker.cool.isEmpty
  let s1 := (s.mapTracker fun k => { k with cool := joinTail k.cool t }).modifyRecord t fun b =>
    { b with stage := .cooling }
  let s2 := s1.append
    (.ovenExited t (s.record t).dose (s.record t).position (s.tracker.cool.length + 1))
  (if empty then s2.divert else s2).driveGate

/-- Oven stop is asserted (R146). -/
def State.assertStop (s : State) : State :=
  let s1 := if s.cure.ovenStop then s
    else (s.mapCure fun c => { c with ovenStop := true }).send (.ovenStop true)
  (s.cure.oven.foldl (fun s t => s.modifyRecord t (BoardRecord.addReason .ovenStopped)) s1).driveGate

/-- The exit overrun (R145). -/
def State.exitOverrun (t : Tag) (s : State) : State :=
  let s1 := s.modifyRecord t fun b => (b.addReason .exitOverrun).hold .none s.lineTime
  let s2 := s1.assertStop.append (.ovenExited t (s.record t).dose (s.record t).position 3)
  let s3 := (s2.joinHolds t).append (.boardHeld t .none (s1.record t).reasons)
  (s3.raiseFault .exitOverrun none (some t) 1).reportEmpty

/-- A delivered EXIT_SEEN (R142, R143). -/
def State.takeExitSeen (s : State) : State :=
  match s.cure.oven with
  | [] => s.raiseFault .unknownAtExit none none 1
  | t :: l =>
    let s1 := (s.mapCure fun c => { c with oven := l }).modifyRecord t
      (BoardRecord.judgeExit s.oven (s.boardCoating t) s.lineTime)
    if s.tracker.cool.length < 3 then s1.exitToCool t else s1.exitOverrun t

end Sys2Proof.Machine
end

