-- ==== Sys2Proof/Machine/Frames.lean ====
section
/-! DEFINITION. Frames on the field ports: the check byte (R182), the frame of each message the CL-740
sends (section 11.3), and the framing of received bytes (R181). A byte is
sent and received as the levels of its ten bit times; how long a bit time lasts, and the idle line between
bytes, is not modelled (notes/assumptions/13.md). -/

namespace Sys2Proof.Machine

/-! ### A byte on the line (R180)

A level is `true` for high. The line idles high between bytes. -/

/-- The levels of a byte: a start bit (low), 8 data bits least significant first, no parity bit, and one stop bit
(high). -/
def byteLevels (b : Byte) : List Bool := false :: (List.range 8).map (fun i => b.getLsbD i) ++ [true]

/-- The levels of bytes sent back to back. -/
def lineLevels (bytes : List Byte) : List Bool := bytes.flatMap byteLevels

/-- The byte whose data bits follow the start bit. -/
def dataBits (levels : List Bool) : Byte :=
  byte (((List.range 8).map fun i => if levels.getD (i + 1) true then 2 ^ i else 0).sum)

/-- The tenth level is a stop bit. -/
def hasStopBit (levels : List Bool) : Bool := levels.getD 9 true

/-- The levels of a byte that lacks its stop bit. Nothing is read from its data bits (R181). -/
def unstopped : List Bool := List.replicate 10 false

/-! ### The check byte (R182) -/

/-- One step: a shift towards the most significant end, and 0x07 folded in where a 1 is shifted out. -/
def crcStep (v : Byte) : Byte := if v.msb then (v <<< 1) ^^^ 0x07 else v <<< 1

/-- A byte folded into the running value. -/
def crcByte (v b : Byte) : Byte := Nat.repeat crcStep 8 (v ^^^ b)

/-- The check byte over bytes, from the initial value 0. -/
def crc (bytes : List Byte) : Byte := bytes.foldl crcByte 0

/-- The bytes of a frame: kind, length, payload, check byte (R181). -/
def Frame.bytes (f : Frame) : List Byte :=
  let body := f.kind :: byte f.payload.length :: f.payload
  body ++ [crc body]

/-! ### The frames that the CL-740 sends (section 11.3) -/

/-- The payload of SEG_RUN from byte 3 on: a field that the segment's kind does not use is 0. -/
def Segment.payload (g : Segment) (dryRun : Bool) (head : ApplicatorKind) : List Byte :=
  match g with
  | .pass a d c r l w _ v =>
    [1, flag dryRun, byte a.val, byte head.code, byte c, byte r, byte d.code, byte l, byte w] ++ le16 v ++ le16 0
  | .move c r v => [2, flag dryRun, 0, 0, byte c, byte r, 0, 0, 0] ++ le16 v ++ le16 0
  | .dwell a c r w _ time =>
    [3, flag dryRun, byte a.val, byte head.code, byte c, byte r, 0, 0, byte w] ++ le16 0 ++ le16 time

/-- The frame of a message. -/
def Message.frame : Message → Frame
  | .segRun tag index segment dryRun head =>
    ⟨0x01, byte tag.val :: le16 index ++ segment.payload dryRun head⟩
  | .halt => ⟨0x02, []⟩
  | .valveOpen a slotMask => ⟨0x11, [byte a.val, 1, slotMask]⟩
  | .valveClose a => ⟨0x11, [byte a.val, 2, 0]⟩
  | .loaderReady level => ⟨0x21, [flag level]⟩
  | .inspect count => ⟨0x22, [byte count]⟩
  | .transfer r slot => ⟨0x23, [byte (routeCode r), byte slot]⟩
  | .entryGate g => ⟨0x31, [byte g.code]⟩
  | .ovenStop asserted => ⟨0x32, [flag asserted]⟩

/-! ### The receiver (R181) -/

/-- A byte received with its stop bit: the framing state that follows, and the frame it completes, where
the check byte agrees (R181, R182). -/
def Receiver.take (r : Receiver) (b : Byte) : Receiver × Option Frame :=
  match r with
  | .awaitKind => (.awaitLength b, none)
  | .awaitLength kind =>
    if b.toNat = 0 then (.awaitCheck kind b [], none)
    else if b.toNat ≤ 32 then (.payload kind b [], none)
    else (.discarding, none)
  | .payload kind length got =>
    if got.length + 1 < length.toNat then (.payload kind length (got ++ [b]), none)
    else (.awaitCheck kind length (got ++ [b]), none)
  | .awaitCheck kind length got =>
    (.awaitKind, if crc (kind :: length :: got) = b then some ⟨kind, got⟩ else none)
  | .discarding => (.discarding, none)

/-- A pause longer than 20 bit times: a frame begun is abandoned (R181). -/
def Receiver.pause (_ : Receiver) : Receiver := .awaitKind

/-- A byte that arrives with a missing stop bit (R181). -/
def Receiver.lostStop (_ : Receiver) : Receiver := .discarding

/-- The levels of one byte received: a byte with its stop bit is taken, and one without it moves the receiver to
DISCARDING (R180, R181). -/
def Receiver.takeLevels (r : Receiver) (levels : List Bool) : Receiver × Option Frame :=
  if hasStopBit levels then r.take (dataBits levels) else (r.lostStop, none)

/-! ### The judgement of a frame (R183) -/

/-- The kinds a port receives, with the payload length the table gives; `none` accepts 0 to 32. -/
def portReceives (p : Port) (kind : Byte) : Option (Option Nat) :=
  match p, kind.toNat with
  | .motion, 0x81 => some (some 3)
  | .motion, 0x82 => some (some 3)
  | .motion, 0x83 => some none
  | .fluid, 0x91 => some (some 3)
  | .station, 0xA1 => some (some 9)
  | .station, 0xA2 => some (some 2)
  | .station, 0xA3 => some (some 1)
  | .station, 0xA4 => some (some 1)
  | .station, 0xA5 => some (some 2)
  | .station, 0xA6 => some (some 1)
  | .oven, 0xB1 => some (some 14)
  | .oven, 0xB2 => some (some 0)
  | .oven, 0xB3 => some (some 0)
  | _, _ => none

/-- The two bytes of a payload field. -/
def half (payload : List Byte) (i : Nat) : Half := payload.getD (i + 1) 0 ++ payload.getD i 0

/-- The serial of an ARRIVAL. -/
def serialOf (payload : List Byte) : Serial := BitVec.ofNat 64 (ofLe (payload.drop 1))

/-- The readings of an OVEN_SAMPLE. -/
def readingsOf (payload : List Byte) : Vector Half 6 := Vector.ofFn fun z => half payload (2 * z.val)

/-- A frame as a received message, judged by kind and length (R183); the message is the command of the
table that the frame's delivery is. -/
def Frame.command (p : Port) (f : Frame) : Option Instr :=
  match portReceives p f.kind with
  | none => none
  | some length =>
    if length.all (fun n => n == f.payload.length) then
      let u (i : Nat) : Byte := f.payload.getD i 0
      match f.kind.toNat with
      | 0x81 => some (.segStarted (u 0) (half f.payload 1))
      | 0x82 => some (.segDone (u 0) (half f.payload 1))
      | 0x83 => some (.motionFault f.payload)
      | 0x91 => some (.pressure (u 0) (half f.payload 1))
      | 0xA1 => some (.arrival (u 0) (serialOf f.payload))
      | 0xA2 => some (.maskResult (u 0) (u 1))
      | 0xA3 => some (.transferDone (u 0))
      | 0xA4 => some (.transferFault (u 0))
      | 0xA5 => some (.slotState (u 0) (u 1))
      | 0xA6 => some (.guard (u 0))
      | 0xB1 => some (.ovenSample (readingsOf f.payload) (half f.payload 12))
      | 0xB2 => some .entrySeen
      | 0xB3 => some .exitSeen
      | _ => none
    else none

end Sys2Proof.Machine
end

