-- ==== Sys2Proof/Machine/Gantry.lean ====
section
/-! DEFINITION. The spray cell's events: SEG_STARTED, SEG_DONE, motion failures, pressure samples and
silence, the guard, and RESUME_CELL (R90-R98, R103). -/

namespace Sys2Proof.Machine

/-- The segment that a motion message names, in the phase it needs: the cell board's tag and the
present segment index (R90-R92). -/
def State.namesSegment (tag : Byte) (index : Half) (phase : Phase) (s : State) : Option (Tag × HeldSegment) :=
  match s.cellBoard, s.sequencer.segment with
  | some t, some h =>
    if s.sequencer.phase = phase ∧ tag.toNat = t.val ∧ index.toNat = s.sequencer.index then some (t, h)
    else none
  | _, _ => none

/-- A valve is opened for a wet segment, at SEG_STARTED alone (R90). -/
def State.openValve (a : ApplicatorId) (s : State) : State :=
  ((s.mapSequencer fun q =>
      { q with
        valve := some a
        valveStart := some s.lineTime
        preStart := q.monitors[a].lastSample }).mapMonitor a fun m => { m with sum := 0, count := 0 }).send
    (.valveOpen a (s.applicator a).slotMask)

/-- A delivered SEG_STARTED (R90, R92). -/
def State.takeSegStarted (tag : Byte) (index : Half) (s : State) : State :=
  match s.namesSegment tag index .sent with
  | none => s
  | some (_, h) =>
    let s1 := s.mapSequencer fun q => { q with phase := .started }
    match h.wet with
    | none => s1
    | some a => if s1.pressureReady a then s1.openValve a else s1.abort .pressure (some a)

/-- The valve closes and the deposit of a wet segment is made (R91 steps 1 and 2). -/
def State.finishWet (t : Tag) (g : Segment) (a : ApplicatorId) (s : State) : State :=
  let q := s.sequencer
  let time := valveTime (q.valveStart.getD s.lineTime) s.lineTime
  (((s.mapSequencer fun q => { q with valve := none, valveStart := none }).send (.valveClose a)).deposit t g a time
    (s.monitor a).sum.toNat (s.monitor a).count.toNat (q.preStart.getD 0))

/-- The boundary after a completed segment (R91 step 4). -/
def State.boundary (t : Tag) (s : State) : State :=
  if s.sequencer.index = s.tables.programs[(s.boardRecipe t).program].segments.length then
    s.pathEnd t .complete
  else if s.line.mode = .freeze then s.setCell .paused none
  else s.fetch t

/-- A delivered SEG_DONE (R91, R92). -/
def State.takeSegDone (tag : Byte) (index : Half) (s : State) : State :=
  match s.namesSegment tag index .started with
  | none => s
  | some (t, h) =>
    let s1 := match h.wet with
      | none => s
      | some a => s.finishWet t h.record a
    (s1.mapSequencer fun q =>
      { q with deadline := none, segment := none, phase := .none, index := q.index + 1 }).boundary t

/-- A segment is in flight in SENT and STARTED (R82). -/
def Sequencer.inFlight (q : Sequencer) : Bool := q.phase == .sent || q.phase == .started

/-- A delivered MOTION_FAULT (R92, R98). -/
def State.takeMotionFault (s : State) : State :=
  if s.sequencer.inFlight then s.abort .motion none else s

/-- SEGMENT_DEADLINE_EXPIRY (R98). -/
def execSegmentDeadlineExpiry (s : State) : Host.Outcome State Fault Refusal :=
  .next (s.live fun s =>
    if s.sequencer.inFlight && expired s.sequencer.deadline s.lineTime then s.abort .motion none else s)

/-- The state a sample is judged into (R93). -/
def PressureState.judge (state : PressureState) (low high p : Nat) : PressureState :=
  match state with
  | .inBand => if p < low then .low else if high < p then .high else .inBand
  | .unknown | .low | .high => if p < low + 5 then .low else if high < p + 5 then .high else .inBand

/-- What a change out of IN_BAND does to the cell: an INTERLOCK applicator with its valve open aborts
its segment (R93). -/
def State.leaveBand (a : ApplicatorId) (s : State) : State :=
  if s.sequencer.valve = some a ∧ (s.applicator a).mode = .interlock then s.abort .pressure (some a) else s

/-- What a change to IN_BAND does to the cell: one that is INTERLOCKED on a segment of this applicator
returns to RUNNING and sends it (R88, R93). -/
def State.enterBand (a : ApplicatorId) (s : State) : State :=
  match s.cellBoard with
  | none => s
  | some t =>
    if s.sequencer.cell = .interlocked ∧ s.sequencer.segment.bind HeldSegment.wet = some a then
      (s.setCell .running none).sendSegment t
    else s

/-- A change of a monitor's state: the PRESSURE entry, then its effect on the cell (R93, R94). -/
def State.changeMonitor (a : ApplicatorId) (new : PressureState) (sample : Nat) (s : State) : State :=
  let old := (s.monitor a).state
  if new = old then s
  else
    let s1 := (s.mapMonitor a fun m => { m with state := new }).append (.pressure a new old sample)
    if new = .inBand then s1.enterBand a else if old = .inBand then s1.leaveBand a else s1

/-- A sample added to the 48-bit sum (R95, R118). -/
def addSample (sum : BitVec 48) (p : Nat) : BitVec 48 :=
  if sum.toNat + p < 2 ^ 48 then BitVec.ofNat 48 (sum.toNat + p) else Config.overfullSum sum p

/-- A sample counted in the 32-bit count (R95, R118). -/
def countSample (count : BitVec 32) : BitVec 32 :=
  if count.toNat + 1 < 2 ^ 32 then BitVec.ofNat 32 (count.toNat + 1) else Config.overfullCount

/-- A pressure sample stored: last sample, silence deadline, and the sum while the valve is open (R93,
R95). -/
def State.storeSample (a : ApplicatorId) (p : Nat) (s : State) : State :=
  let openNow := s.sequencer.valve == some a
  s.mapMonitor a fun m =>
    { m with
      lastSample := some p
      silence := some (s.lineTime + Config.pressureSilence)
      sum := if openNow then addSample m.sum p else m.sum
      count := if openNow then countSample m.count else m.count }

/-- A delivered PRESSURE; a value above 1023 is taken as 1023 (R93, R183). -/
def State.takePressure (applicator : Byte) (kPa : Half) (s : State) : State :=
  if applicator.toNat ≤ 3 then
    let a : ApplicatorId := Fin.ofNat 4 applicator.toNat
    let p := min 1023 kPa.toNat
    let s1 := s.storeSample a p
    match s.tables.applicators[a].record with
    | none => s1
    | some r => s1.changeMonitor a ((s.monitor a).state.judge r.bandLow r.bandHigh p) p
  else s

/-- PRESSURE_SILENCE_DEADLINE_EXPIRY (R94). -/
def execPressureSilenceDeadlineExpiry (a : ApplicatorId) (s : State) : Host.Outcome State Fault Refusal :=
  .next (s.live fun s => if expired (s.monitor a).silence s.lineTime then
      (s.mapMonitor a fun m => { m with silence := none }).changeMonitor a .unknown
        ((s.monitor a).lastSample.getD 0)
    else s)

/-- A delivered GUARD (R96). -/
def State.takeGuard (g : GuardState) (s : State) : State :=
  if s.sequencer.guard = g then s
  else
    let s1 := s.mapSequencer fun q => { q with guard := g }
    match g with
    | .opened => s1.abortActive .guard
    | .closed => s1.leavePaused

/-- The state code of a GUARD (section 11.3). -/
def guardOf (b : Byte) : Option GuardState :=
  match b.toNat with
  | 1 => some .opened
  | 2 => some .closed
  | _ => none

/-- The checks of a RESUME_CELL, in order (R103). -/
def State.resumeChecks (s : State) (c : TakenCard) : List Check :=
  [ (c.badLength 1, refusedAt 8),
    rangeCheck 16 (c.u8 16) 0 31,
    (s.sequencer.cell != .stopped, result .refusedState [1]),
    (s.cellBoard != some (Fin.ofNat 32 (c.u8 16)), result .refusedState [2]),
    (s.sequencer.guard == .opened, result .refusedState [3]),
    (match s.sequencer.stopCause, s.sequencer.stopApplicator with
      | some .pressure, some a =>
        ((s.monitor a).state != .inBand, result .refusedState [4, a.val])
      | _, _ => (false, result .refusedState [4])) ]

/-- RESUME_CELL (R103): the path ends with end RESUME_CELL. -/
def applyResume (c : TakenCard) (s : State) : State × CardResult :=
  judge (s.resumeChecks c)
    (fun s =>
      let t : Tag := Fin.ofNat 32 (c.u8 16)
      let e := s.evaluation t
      (s.pathEnd t .resumeCell,
        result .ok [match (s.record t).lastSegment with | none => 0 | some i => i + 1, e.thin, e.thick])) s

/-- RESUME_CELL: the next taken card, of kind 13 (R103). -/
def execResumeCell (s : State) : Host.Outcome State Fault Refusal :=
  .next (s.processCard (TakenCard.isKind 13) applyResume)

end Sys2Proof.Machine
end

