-- ==== Sys2Proof/Machine/Hold.lean ====
section
/-! DEFINITION. The Hold Manager: slot sensor reports, dispositions and recoat, RECLAIM_MAP and the
recoat watch (chapter 9). -/

namespace Sys2Proof.Machine

/-! ### Slot sensors (R156) -/

/-- What a slot sensor reports (section 11.3). -/
inductive SlotReport where
  | occupied
  | emptied
  deriving DecidableEq, Repr, Inhabited

/-- The report code of a SLOT_STATE. -/
def slotReportOf (b : Byte) : Option SlotReport :=
  match b.toNat with
  | 1 => some .occupied
  | 2 => some .emptied
  | _ => none

/-- A delivered SLOT_STATE (R156); a slot above 7 is ignored. -/
def State.takeSlotState (slot : Byte) (report : SlotReport) (s : State) : State :=
  if slot.toNat < 8 then
    let n : SlotId := Fin.ofNat 8 slot.toNat
    match s.holds.slots[n], report with
    | .free, .occupied => s.setSlot n .foreign
    | .assigned t, .emptied =>
      (s.modifyRecord t fun b => { b with location := .removed }).setSlot n .free
    | .foreign, .emptied => s.setSlot n .free
    | _, _ => s
  else s

/-! ### Dispositions (R160-R163) -/

/-- The board tag of a DISPOSE or RECLAIM_MAP card. -/
def TakenCard.boardTag (c : TakenCard) : Tag := Fin.ofNat 32 (c.u8 16)

/-- Step 1 of the checks of a DISPOSE (R160). -/
def TakenCard.disposeShape (c : TakenCard) : List Check :=
  [ (c.badLength 16, refusedAt 8),
    rangeCheck 16 (c.u8 16) 0 31,
    rangeCheck 17 (c.u8 17) 1 3 ]

/-- A DISPOSE card that a DISPOSE command of this action processes: its action is this one, or it is
refused at step 1, where every action gives the same result (DESIGN CHOICE, notes/assumptions/14.md). -/
def TakenCard.isDispose (a : Action) (c : TakenCard) : Bool :=
  c.isKind 10 && (c.u8 17 == a.code || (firstRefusal c.disposeShape).isSome)

/-- Steps 1 to 3 of the checks of a DISPOSE (R160). -/
def State.disposeChecks (s : State) (c : TakenCard) : List Check :=
  let b := s.record c.boardTag
  c.disposeShape ++
    [ (!b.valid, result .refusedUnknown [1]),
      (b.serial != c.u64 24, result .refusedUnknown [2]),
      (b.stage != .held, result .refusedState [1, b.stage.code]) ]

/-- The slot a board's location names. -/
def Location.slotId : Location → Option SlotId
  | .slot n => some n
  | _ => Option.none

/-- A disposed board's slot becomes FOREIGN (R157). -/
def State.makeForeign (l : Location) (s : State) : State :=
  match l.slotId with
  | none => s
  | some n => s.setSlot n .foreign

/-- A held board leaves the hold order, and its record is freed (R161, R163). -/
def State.dropBoard (t : Tag) (s : State) : State := (s.leaveHolds t).modifyRecord t BoardRecord.release

/-- An accepted RELEASE or SCRAP (R161). A held board is in no transport stage, so its freeing makes no
line empty report (DEDUCED, notes/assumptions/27.md). -/
def State.disposeOf (a : Action) (t : Tag) (s : State) : State × CardResult :=
  let location := (s.record t).location
  (((s.freeOwned t).dropBoard t).makeForeign location |>.driveLoader,
    ⟨.ok, [word a.code, wordOrNone ((s.ownedFrame t).map (·.val)), wordOrNone (location.slotId.map (·.val))]⟩)

/-- A DISPOSE card of action RELEASE or SCRAP (R160, R161). -/
def applyDispose (a : Action) (c : TakenCard) (s : State) : State × CardResult :=
  judge (s.disposeChecks c) (fun s => s.disposeOf a c.boardTag) s

/-- DISPOSE_RELEASE: the next taken card, of kind 10 with action RELEASE (R161). -/
def execDisposeRelease (s : State) : Host.Outcome State Fault Refusal :=
  .next (s.processCard (TakenCard.isDispose .release) (applyDispose .release))

/-- DISPOSE_SCRAP: the next taken card, of kind 10 with action SCRAP (R161). -/
def execDisposeScrap (s : State) : Host.Outcome State Fault Refusal :=
  .next (s.processCard (TakenCard.isDispose .scrap) (applyDispose .scrap))

/-- The checks of R162, in order. -/
def State.recoatChecks (s : State) (t : Tag) : List Check :=
  let b := s.record t
  [ (b.sprayStart.isNone, result .refusedState [2]),
    (b.barred, result .refusedState [3, b.reasons.toNat]),
    (b.mapFrame.isNone, result .refusedState [4]),
    (s.tables.recipes[b.recipe].isNone, result .refusedState [5]),
    (decide ((s.recipe b.recipe).recoatLimit < b.pass),
      result .refusedRange [17, b.pass, (s.recipe b.recipe).recoatLimit]),
    (!b.recoatOpen, result .refusedTooLate []),
    (decide (4 ≤ s.reservedFrames), result .refusedFull [1]),
    (decide (Config.admissionCapacity ≤ s.tracker.admissions.length), result .refusedFull [2]) ]

/-- The board's frame becomes RESERVED for the new admission entry (R163 step 2). -/
def State.reserveFrame (f : Option FrameId) (pass : Nat) (s : State) : State :=
  match f with
  | none => s
  | some f => s.setFrame f ⟨.reserved, none, some pass⟩

/-- An accepted RECOAT: the record becomes an admission entry that holds its frame (R163). -/
def State.recoat (t : Tag) (s : State) : State × CardResult :=
  let b := s.record t
  let s1 := s.mapTracker fun k =>
    { k with admissions := k.admissions ++ [Admission.mk b.serial b.recipe (b.pass + 1) b.mapFrame] }
  (((s1.reserveFrame b.mapFrame (b.pass + 1)).dropBoard t).makeForeign b.location |>.driveLoader,
    ⟨.ok, [word 3, wordOrNone (b.mapFrame.map (·.val)), word (b.pass + 1), word (s.tracker.admissions.length + 1)]⟩)

/-- A DISPOSE card of action RECOAT (R160, R162, R163). -/
def applyRecoat (c : TakenCard) (s : State) : State × CardResult :=
  judge (s.disposeChecks c ++ s.recoatChecks c.boardTag) (fun s => s.recoat c.boardTag) s

/-- DISPOSE_RECOAT: the next taken card, of kind 10 with action RECOAT (R163). -/
def execDisposeRecoat (s : State) : Host.Outcome State Fault Refusal :=
  .next (s.processCard (TakenCard.isDispose .recoat) applyRecoat)

/-! ### RECLAIM_MAP (R165) -/

/-- The checks of a RECLAIM_MAP, in order (R165). -/
def State.reclaimChecks (s : State) (c : TakenCard) : List Check :=
  let b := s.record c.boardTag
  [ (c.badLength 1, refusedAt 8),
    rangeCheck 16 (c.u8 16) 0 31,
    (!b.valid, result .refusedUnknown [1]),
    (b.mapFrame.isNone, result .refusedUnknown [2]),
    (match b.mapFrame with
      | none => (false, result .refusedState [])
      | some f =>
        (s.coverage.frames[f].state != .retained,
          result .refusedState [s.coverage.frames[f].state.code, f.val])) ]

/-- RECLAIM_MAP (R165): the record's map frame becomes absent, and the frame FREE. -/
def applyReclaim (c : TakenCard) (s : State) : State × CardResult :=
  judge (s.reclaimChecks c)
    (fun s =>
      match (s.record c.boardTag).mapFrame with
      | none => (s, result .ok [])
      | some f =>
        (((s.modifyRecord c.boardTag fun b => { b with mapFrame := none }).setFrame f .free).append
            (.mapReclaimed f c.boardTag .reclaimMap),
          result .ok [f.val])) s

/-- RECLAIM_MAP: the next taken card, of kind 11 (R165). -/
def execReclaimMap (s : State) : Host.Outcome State Fault Refusal :=
  .next (s.processCard (TakenCard.isKind 11) applyReclaim)

/-! ### The recoat watch (R164) -/

/-- RECOAT_EXPIRED: a watched board's recoat deadline expires; its flag is cleared (R164). -/
def execRecoatExpired (t : Tag) (s : State) : Host.Outcome State Fault Refusal :=
  .next (s.live fun s => 
    let b := s.record t
    if b.valid && b.recoatOpen && expired b.recoatDeadline s.lineTime then
      (s.modifyRecord t fun b => { b with recoatOpen := false }).append (.recoatExpired t b.serial)
    else s)

end Sys2Proof.Machine
end

