-- ==== Sys2Proof/Machine/FieldPorts.lean ====
section
/-! DEFINITION. The Field Port Controllers: received bytes and the delivery of good frames, the command of
each received message, and the transmitters (chapter 11). -/

namespace Sys2Proof.Machine

/-! ### Codes judged before delivery (R183) -/

/-- An ARRIVAL: read status 1 carries a serial, 2 is NO_READ, and any other is discarded (R5, R183). -/
def State.judgeArrival (status : Byte) (serial : Serial) (s : State) : State :=
  match status.toNat with
  | 1 => s.takeArrival (some serial)
  | 2 => s.takeArrival none
  | _ => s

/-- A MASK_RESULT: a value the table does not define is discarded (R72, R183). -/
def State.judgeMaskResult (index value : Byte) (s : State) : State :=
  match maskValueOf value with
  | none => s
  | some v => s.takeMaskResult index v

/-- A TRANSFER_DONE: a route code outside 1-6 is ignored (R18, R20). -/
def State.judgeTransferDone (code : Byte) (s : State) : State :=
  match routeOfCode code with
  | none => s
  | some r => s.takeTransferDone r

/-- A TRANSFER_FAULT: a route code outside 1-6 is ignored (R19, R20). -/
def State.judgeTransferFault (code : Byte) (s : State) : State :=
  match routeOfCode code with
  | none => s
  | some r => s.takeTransferFault r

/-- A SLOT_STATE: a report the table does not define is discarded (R156, R183). -/
def State.judgeSlotState (slot report : Byte) (s : State) : State :=
  match slotReportOf report with
  | none => s
  | some r => s.takeSlotState slot r

/-- A GUARD: a state the table does not define is discarded (R96, R183). -/
def State.judgeGuard (state : Byte) (s : State) : State :=
  match guardOf state with
  | none => s
  | some g => s.takeGuard g

/-! ### Reception byte by byte (R180, R181) -/

/-- Sets the framing state of a port's receiver. -/
def State.setReceiver (p : Port) (r : Receiver) (s : State) : State :=
  { s with ports := s.ports.set p { s.ports.get p with receiver := r } }

/-- The framing state of a port's receiver. -/
def State.receiver (s : State) (p : Port) : Receiver := (s.ports.get p).receiver

/-- A message delivered to the block that owns it (R180). -/
def State.takeMessage (c : Instr) (s : State) : State :=
  match c with
  | .segStarted tag index => s.takeSegStarted tag index
  | .segDone tag index => s.takeSegDone tag index
  | .motionFault _ => s.takeMotionFault
  | .pressure applicator kPa => s.takePressure applicator kPa
  | .arrival status serial => s.judgeArrival status serial
  | .maskResult index value => s.judgeMaskResult index value
  | .transferDone code => s.judgeTransferDone code
  | .transferFault code => s.judgeTransferFault code
  | .slotState slot report => s.judgeSlotState slot report
  | .guard state => s.judgeGuard state
  | .ovenSample readings delta => s.takeOvenSample readings delta
  | .entrySeen => s.takeEntrySeen
  | .exitSeen => s.takeExitSeen
  | _ => s

/-- A frame that has passed its check: delivered, or discarded (R183). -/
def State.deliver (p : Port) (f : Frame) (s : State) : State :=
  match f.command p with
  | none => s
  | some c => s.takeMessage c

/-- The levels of one byte received, start bit to stop bit (R180, R181). -/
def State.receiveLevels (p : Port) (levels : List Bool) (s : State) : State :=
  let (r, f) := (s.receiver p).takeLevels levels
  let s1 := s.setReceiver p r
  match f with
  | none => s1
  | some f => s1.deliver p f

/-- One received byte, with its stop bit (R180, R181). -/
def State.receiveByte (p : Port) (s : State) (b : Byte) : State := s.receiveLevels p (byteLevels b)

/-- A pause longer than 20 bit times on a port's receive line (R181). -/
def State.receivePause (p : Port) (s : State) : State := s.setReceiver p (s.receiver p).pause

/-- Received bytes, in order. -/
def State.receiveBytes (p : Port) (bytes : List Byte) (s : State) : State := bytes.foldl (State.receiveByte p) s

/-! ### Whole frames received -/

/-- The two bytes of a 16-bit payload field. -/
def halfBytes (h : Half) : List Byte := [h.extractLsb' 0 8, h.extractLsb' 8 8]

/-- A whole good frame received: in AWAIT_KIND its message is taken; in any other framing state its bytes
go on from there (R181; DEDUCED, notes/assumptions/18.md). -/
def State.receiveFrame (p : Port) (f : Frame) (take : State → State) (s : State) : State :=
  s.live fun s => if s.receiver p = .awaitKind then take s else s.receiveBytes p f.bytes

/-- SEG_STARTED (R90). -/
def execSegStarted (tag : Byte) (index : Half) (s : State) : Host.Outcome State Fault Refusal :=
  .next (s.receiveFrame .motion ⟨0x81, tag :: halfBytes index⟩ fun s => s.takeSegStarted tag index)

/-- SEG_DONE (R91). -/
def execSegDone (tag : Byte) (index : Half) (s : State) : Host.Outcome State Fault Refusal :=
  .next (s.receiveFrame .motion ⟨0x82, tag :: halfBytes index⟩ fun s => s.takeSegDone tag index)

/-- MOTION_FAULT (R98): no frame carries more than 32 diagnostic bytes (R181), and a command with more
does nothing (DESIGN CHOICE, notes/assumptions/20.md). -/
def execMotionFault (diagnostic : List Byte) (s : State) : Host.Outcome State Fault Refusal :=
  .next (if diagnostic.length ≤ 32 then
      s.receiveFrame .motion ⟨0x83, diagnostic⟩ fun s => s.takeMotionFault
    else s)

/-- PRESSURE (R93). -/
def execPressure (applicator : Byte) (kPa : Half) (s : State) : Host.Outcome State Fault Refusal :=
  .next (s.receiveFrame .fluid ⟨0x91, applicator :: halfBytes kPa⟩ fun s => s.takePressure applicator kPa)

/-- ARRIVAL (R5). -/
def execArrival (status : Byte) (serial : Serial) (s : State) : Host.Outcome State Fault Refusal :=
  .next (s.receiveFrame .station ⟨0xA1, status :: le64 serial⟩ fun s => s.judgeArrival status serial)

/-- MASK_RESULT (R72). -/
def execMaskResult (index value : Byte) (s : State) : Host.Outcome State Fault Refusal :=
  .next (s.receiveFrame .station ⟨0xA2, [index, value]⟩ fun s => s.judgeMaskResult index value)

/-- TRANSFER_DONE (R18). -/
def execTransferDone (code : Byte) (s : State) : Host.Outcome State Fault Refusal :=
  .next (s.receiveFrame .station ⟨0xA3, [code]⟩ fun s => s.judgeTransferDone code)

/-- TRANSFER_FAULT (R19). -/
def execTransferFault (code : Byte) (s : State) : Host.Outcome State Fault Refusal :=
  .next (s.receiveFrame .station ⟨0xA4, [code]⟩ fun s => s.judgeTransferFault code)

/-- SLOT_STATE (R156). -/
def execSlotState (slot report : Byte) (s : State) : Host.Outcome State Fault Refusal :=
  .next (s.receiveFrame .station ⟨0xA5, [slot, report]⟩ fun s => s.judgeSlotState slot report)

/-- GUARD (R96). -/
def execGuard (state : Byte) (s : State) : Host.Outcome State Fault Refusal :=
  .next (s.receiveFrame .station ⟨0xA6, [state]⟩ fun s => s.judgeGuard state)

/-- OVEN_SAMPLE (R138). -/
def execOvenSample (readings : Vector Half 6) (delta : Half) (s : State) : Host.Outcome State Fault Refusal :=
  .next (s.receiveFrame .oven ⟨0xB1, readings.toList.flatMap halfBytes ++ halfBytes delta⟩ fun s =>
    s.takeOvenSample readings delta)

/-- ENTRY_SEEN (R133). -/
def execEntrySeen (s : State) : Host.Outcome State Fault Refusal :=
  .next (s.receiveFrame .oven ⟨0xB2, []⟩ fun s => s.takeEntrySeen)

/-- EXIT_SEEN (R143). -/
def execExitSeen (s : State) : Host.Outcome State Fault Refusal :=
  .next (s.receiveFrame .oven ⟨0xB3, []⟩ fun s => s.takeExitSeen)

/-- FRAME_DISCARDED (R183): the bytes of a damaged or malformed frame; a good frame among them is
delivered (DEDUCED, notes/assumptions/19.md). -/
def execFrameDiscarded (p : Port) (bytes : List Byte) (s : State) : Host.Outcome State Fault Refusal :=
  .next (s.live fun s => s.receiveBytes p bytes)

/-- FRAME_ABANDONED (R181): received bytes, then a pause longer than 20 bit times. -/
def execFrameAbandoned (p : Port) (bytes : List Byte) (s : State) : Host.Outcome State Fault Refusal :=
  .next (s.live fun s => (s.receiveBytes p bytes).receivePause p)

/-- MISSING_STOP_BIT (R181): received bytes, then a byte that lacks its stop bit. -/
def execMissingStopBit (p : Port) (bytes : List Byte) (s : State) : Host.Outcome State Fault Refusal :=
  .next (s.live fun s => (s.receiveBytes p bytes).receiveLevels p unstopped)

/-! ### Transmitters (R184) -/

/-- A transmitter sends the front one of its waiting frames whole. -/
def PortState.transmit (p : PortState) : PortState :=
  match p.waiting with
  | [] => p
  | m :: rest => { p with waiting := rest, line := lineLevels m.frame.bytes }

/-- FRAME_TRANSMIT (R184). -/
def execFrameTransmit (p : Port) (s : State) : Host.Outcome State Fault Refusal :=
  .next (s.live fun s => { s with ports := s.ports.set p (s.ports.get p).transmit })

end Sys2Proof.Machine
end

