-- ==== Sys2Proof/Machine/HostPort.lean ====
section
/-! DEFINITION. The host port and the card scan: host writes of exchange memory words and of registers,
judged by the window or register they address, the scan of the card directory, cards of no known kind, and
the line time tick (chapter 2). -/

namespace Sys2Proof.Machine

/-! ### Exchange memory writes (R22, R24, R27, R31) -/

/-- A dropped host write: it sets ATTN.REFUSED and leaves exchange memory unchanged (R24). -/
def State.dropWrite (s : State) : State := s.setAttn attnRefused

/-- An accepted write to a directory entry: the new state, and zero in the status copy (R27). -/
def State.acceptEntry (n : CardId) (new : CardState) (s : State) : State := s.setEntry n ⟨new, 0⟩

/-- A posting sets the scan-pending flag (R29). -/
def State.markScan (s : State) : State := { s with exchange := { s.exchange with scanPending := true } }

/-- A host write to a directory entry, judged on the state byte it carries (R27). -/
def State.writeEntry (n : CardId) (code : Byte) (s : State) : State :=
  match s.exchange.directory[n].state, code.toNat with
  | .free, 1 => (s.acceptEntry n .posted).markScan
  | .posted, 0 => s.acceptEntry n .free
  | .done, 0 => s.acceptEntry n .free
  | _, _ => s.dropWrite

/-- A card is host-writable while its entry is FREE or POSTED (R31). -/
def CardState.hostWritable : CardState → Bool
  | .free => true
  | .posted => true
  | .taken => false
  | .done => false

/-- A host write of a word to a card (R31). -/
def State.writeCard (n : CardId) (offset : Nat) (data : Word) (s : State) : State :=
  if s.exchange.directory[n].state.hostWritable then s.writeMem offset (le32 data) else s.dropWrite

/-- What a byte offset of exchange memory lies in, for a host write (R24). -/
inductive Window where
  /-- Part-writable or unmapped: every host write is dropped. -/
  | closed
  /-- The host header. -/
  | hostHeader
  /-- A card directory entry. -/
  | entry (n : CardId)
  /-- A card. -/
  | card (n : CardId)
  deriving DecidableEq, Repr

/-- The window of a byte offset (R24). -/
def windowOf (offset : Nat) : Window :=
  if 0x100 ≤ offset ∧ offset < 0x200 then .hostHeader
  else if 0x200 ≤ offset ∧ offset < 0x300 then .entry (Fin.ofNat 64 ((offset - 0x200) / 4))
  else if 0x4000 ≤ offset ∧ offset < 0x14000 then .card (Fin.ofNat 64 ((offset - 0x4000) / 1024))
  else .closed

/-- A served host write of the word at a byte offset (R22, R24). -/
def State.hostWrite (offset : Nat) (data : Word) (s : State) : State :=
  match windowOf offset with
  | .hostHeader => s.writeMem offset (le32 data)
  | .entry n => s.writeEntry n (data.extractLsb' 0 8)
  | .card n => s.writeCard n offset data
  | .closed => s.dropWrite

/-- The byte offset a word address selects (R22). -/
def byteOffset (address : BitVec 15) : Nat := 4 * address.toNat

/-- HOST_MEMORY_WRITE (R24). A host write acts by its address and word, whatever row it came under
(DEDUCED, notes/assumptions/4.md), and every host write is ignored while the part is held in reset or
restarts (R175). -/
def execHostMemoryWrite (address : BitVec 15) (data : Word) (s : State) : Host.Outcome State Fault Refusal :=
  .next (s.served (State.hostWrite (byteOffset address) data))

/-- Where directory entry n lies (R24). -/
def entryOffset (n : CardId) : Nat := 0x200 + 4 * n.val

/-- POSTING (R27): the word carries POSTED in byte 0. -/
def execPosting (card : CardId) (upper : BitVec 24) (s : State) : Host.Outcome State Fault Refusal :=
  .next (s.served (State.hostWrite (entryOffset card) (upper ++ (1#8 : Byte))))

/-- WITHDRAWAL (R27): the word carries FREE in byte 0. -/
def execWithdrawal (card : CardId) (upper : BitVec 24) (s : State) : Host.Outcome State Fault Refusal :=
  .next (s.served (State.hostWrite (entryOffset card) (upper ++ (0#8 : Byte))))

/-- CARD_RETURN (R27): the word carries FREE in byte 0. -/
def execCardReturn (card : CardId) (upper : BitVec 24) (s : State) : Host.Outcome State Fault Refusal :=
  .next (s.served (State.hostWrite (entryOffset card) (upper ++ (0#8 : Byte))))

/-! ### Register writes (R22, R41-R44) -/

/-- A host write to LINE_CTL: bits 0-7 carry the requested mode code, the other bits are ignored (R41). -/
def State.writeLineCtl (data : Word) (s : State) : State :=
  match (data.extractLsb' 0 8).toNat with
  | 1 => s.requestMode .run
  | 2 => s.requestMode .freeze
  | 3 => s.requestMode .drain
  | _ => s.dropWrite

/-- A host write to ATTN clears each bit for which it carries a 1 (R42). -/
def State.writeAttn (data : Word) (s : State) : State :=
  { s with exchange := { s.exchange with attn := s.exchange.attn &&& ~~~(data.extractLsb' 0 5) } }

/-- A host write to ATTN_EN (R43). -/
def State.writeAttnEn (data : Word) (s : State) : State :=
  { s with exchange := { s.exchange with attnEn := data.extractLsb' 0 5 } }

/-- A host write to START_STATUS clears each bit for which it carries a 1 (R44). -/
def State.writeStartStatus (data : Word) (s : State) : State :=
  { s with exchange := { s.exchange with startStatus := s.exchange.startStatus &&& ~~~(data.extractLsb' 0 3) } }

/-- A host write to a register position (R22). -/
def State.writeRegister (position : BitVec 3) (data : Word) (s : State) : State :=
  match position.toNat with
  | 1 => s.writeLineCtl data
  | 2 => s.writeAttn data
  | 3 => s.writeAttnEn data
  | 4 => s.writeStartStatus data
  | _ => s.dropWrite

/-- LINE_CTL_RUN (R168). -/
def execLineCtlRun (upper : BitVec 24) (s : State) : Host.Outcome State Fault Refusal :=
  .next (s.served (State.writeRegister 1 (upper ++ (1#8 : Byte))))

/-- LINE_CTL_FREEZE (R168). -/
def execLineCtlFreeze (upper : BitVec 24) (s : State) : Host.Outcome State Fault Refusal :=
  .next (s.served (State.writeRegister 1 (upper ++ (2#8 : Byte))))

/-- LINE_CTL_DRAIN (R168). -/
def execLineCtlDrain (upper : BitVec 24) (s : State) : Host.Outcome State Fault Refusal :=
  .next (s.served (State.writeRegister 1 (upper ++ (3#8 : Byte))))

/-- LINE_CTL_OTHER_CODE (R41). -/
def execLineCtlOtherCode (data : Word) (s : State) : Host.Outcome State Fault Refusal :=
  .next (s.served (State.writeRegister 1 data))

/-- ATTN_WRITE (R42). -/
def execAttnWrite (data : Word) (s : State) : Host.Outcome State Fault Refusal :=
  .next (s.served (State.writeRegister 2 data))

/-- ATTN_EN_WRITE (R43). -/
def execAttnEnWrite (data : Word) (s : State) : Host.Outcome State Fault Refusal :=
  .next (s.served (State.writeRegister 3 data))

/-- START_STATUS_WRITE (R44). -/
def execStartStatusWrite (data : Word) (s : State) : Host.Outcome State Fault Refusal :=
  .next (s.served (State.writeRegister 4 data))

/-- REGISTER_WRITE_DROPPED (R22): the lowest three address bits select the position. -/
def execRegisterWriteDropped (address : BitVec 15) (data : Word) (s : State) : Host.Outcome State Fault Refusal :=
  .next (s.served (State.writeRegister (address.extractLsb' 0 3) data))

/-! ### Scan and take (R29, R30) -/

/-- The body length of a card as it stands in exchange memory (R32). -/
def Memory.cardLength (m : Memory) (n : CardId) : Half := BitVec.ofNat 16 (ofLe (m.readBytes (cardAt n + 8) 2))

/-- The header and body read at the take (R30, R32). -/
def Memory.takeCard (m : Memory) (n : CardId) : TakenCard where
  index := n
  kind := m.cardKind n
  hostTag := m.cardTag n
  bodyLength := m.cardLength n
  body := m.readBytes (cardAt n + 16) (min Config.maxBody (m.cardLength n).toNat)

/-- An entry after the visit of the walk: POSTED becomes TAKEN (R29, R30). -/
def DirectoryEntry.visit (e : DirectoryEntry) : DirectoryEntry :=
  if e.state = .posted then { e with state := .taken } else e

/-- The POSTED cards, in ascending index. -/
def State.postedCards (s : State) : List CardId :=
  allCards.filter fun n => s.exchange.directory[n].state == .posted

/-- The walk visits the next entries from `first` on: each POSTED one becomes TAKEN, and its card is read and
waits its turn (R29, R30). -/
def State.walk (first visits : Nat) (s : State) : State :=
  let here (n : CardId) : Bool := decide (first ≤ n.val) && decide (n.val < first + visits)
  { s with
    exchange :=
      { s.exchange with
        directory := Vector.ofFn fun n =>
          if here n then s.exchange.directory[n].visit else s.exchange.directory[n] }
    cards :=
      { taken := s.cards.taken ++ (s.postedCards.filter here).map s.exchange.mem.takeCard
        visiting := if first + visits < 64 then some (Fin.ofNat 64 (first + visits)) else none } }

/-- The Card Processor is idle (R29). -/
def State.cardsIdle (s : State) : Bool := s.cards.taken.isEmpty && s.cards.visiting.isNone

/-- A scan starts: scan-pending is cleared (R29). -/
def State.clearScan (s : State) : State := { s with exchange := { s.exchange with scanPending := false } }

/-- SCAN (R29): a walk in progress goes on; one starts when the Card Processor is idle and scan-pending is set;
otherwise the command names no event (DESIGN CHOICE, notes/assumptions/2.md and 29.md). -/
def execScan (s : State) (visits : Nat := 64) : Host.Outcome State Fault Refusal :=
  .next (s.live fun s =>
    match s.cards.visiting with
    | some n => s.walk n.val visits
    | none => if s.cardsIdle && s.exchange.scanPending then s.clearScan.walk 0 visits else s)

/-- The card is of kind 0 or above 13 (R33). -/
def TakenCard.unknownKind (c : TakenCard) : Bool := outside c.kind.toNat 1 13

/-- REFUSED_KIND: the next taken card is of kind 0 or above 13; detail word 0 holds the kind (R33). -/
def execRefusedKind (s : State) : Host.Outcome State Fault Refusal :=
  .next (s.processCard TakenCard.unknownKind fun c s => (s, result .refusedKind [c.kind.toNat]))

/-! ### Line time -/

/-- LINE_TIME_TICK: line time advances by one millisecond, modulo 2^32 (R25). -/
def execLineTimeTick (s : State) : Host.Outcome State Fault Refusal :=
  .next (s.live fun s => { s with lineTime := s.lineTime + 1 })

end Sys2Proof.Machine
end

