-- ==== Sys2Proof/Machine/Restart.lean ====
section
/-! DEFINITION. The line clear of DECLARE_CLEAR (R173, R174), and the three resets with the restart
that follows each (R175-R179). -/

namespace Sys2Proof.Machine

/-! ### DECLARE_CLEAR (R173, R174) -/

/-- The checks of a DECLARE_CLEAR, in order (R173). -/
def State.clearChecks (s : State) (c : TakenCard) : List Check :=
  [ (c.badLength 0, refusedAt 8),
    (!(s.line.mode == .lost || s.line.mode == .faulted), result .refusedState [s.line.mode.code]) ]

/-- The valid records in a transport stage, in ascending tag order. -/
def State.transportTags (s : State) : List Tag := allTags.filter fun t => (s.record t).inTransport

/-- A record converted by a line clear (R174 step 2). -/
def BoardRecord.clearLine (now : Time) (b : BoardRecord) : BoardRecord :=
  (b.addReason .lineCleared).hold .none now

/-- One record converted by a line clear, and placed in the hold order (R174 step 2). -/
def State.clearBoard (s : State) (t : Tag) : State :=
  (s.modifyRecord t (BoardRecord.clearLine s.lineTime)).joinHolds t

/-- The frames of the boards converted (R174 step 3). -/
def State.clearFrames (s : State) : State :=
  { s with coverage := { s.coverage with frames := s.coverage.frames.map FrameEntry.clear } }

/-- The position lists and the oven list emptied, the routes IDLE, the flash-off items cancelled (R174
step 4). -/
def State.clearLists (s : State) : State :=
  (s.mapTracker fun k =>
    { Tracker.reset k.boards with admissions := k.admissions, loaderReady := k.loaderReady }).mapCure fun c =>
      { c with oven := [] }

/-- All slots, spur slots before mask-lane slots, each in ascending index. -/
def allSlots : List SlotId := List.finRange 8

/-- A slot is RESERVED. -/
def SlotState.isReserved : SlotState → Bool
  | .reserved _ => true
  | _ => false

/-- The RESERVED slots, in the order of R174 step 5. -/
def State.reservedSlots (s : State) : List SlotId := allSlots.filter fun n => s.holds.slots[n].isReserved

/-- Every RESERVED slot becomes FREE (R174 step 5). -/
def State.clearSlots (s : State) : State := s.reservedSlots.foldl (fun s n => s.setSlot n .free) s

/-- The cell becomes IDLE, with CELL_STATE if it was not IDLE (R107, R174 step 6). In the modes of a line
clear no valve is open, so no message goes to the Fluid port (DEDUCED, notes/assumptions/23.md). -/
def State.clearCell (s : State) : State :=
  let s1 := s.mapSequencer fun q =>
    { q with
      stopCause := none
      stopApplicator := none
      index := 0
      segment := none
      phase := .none
      deadline := none
      valve := none
      valveStart := none }
  if s.sequencer.cell = .idle then s1 else s1.setCell .idle none

/-- Oven stop is released, and the gate set CLOSED (R174 step 7). -/
def State.clearOven (s : State) : State :=
  let s1 := s.mapCure fun c => { c with ovenStop := false, gate := .closed }
  if s.cure.ovenStop then s1.send (.ovenStop false) else s1

/-- The line clear, as one event (R174). -/
def State.clearLine (s : State) : State :=
  let s1 := { s with verifier := Verifier.reset }
  let s2 := s1.transportTags.foldl State.clearBoard s1
  let s3 := s2.clearFrames.clearLists.clearSlots.clearCell.clearOven
  { s3 with line := { s3.line with firstFault := none } }.changeMode .ready

/-- DECLARE_CLEAR (R173, R174). -/
def applyClear (c : TakenCard) (s : State) : State × CardResult :=
  judge (s.clearChecks c)
    (fun s => (s.clearLine,
      result .ok [s.line.mode.code, faultByte s.line.firstFault, s.transportTags.length, s.reservedSlots.length])) s

/-- DECLARE_CLEAR: the next taken card, of kind 12 (R173). -/
def execDeclareClear (s : State) : Host.Outcome State Fault Refusal :=
  .next (s.processCard (TakenCard.isKind 12) applyClear)

/-! ### The restart conversion (R178) -/

/-- A kept record converted (R178); a record that is not valid is left as it is. -/
def BoardRecord.restart (b : BoardRecord) : BoardRecord :=
  if b.valid then
    if b.stage.transport then { (b.addReason .resetInterrupted).hold .none 0 with recoatOpen := false }
    else { b with location := .none, recoatOpen := false }
  else b

/-- The frame table entry rebuilt from the records: the frame a valid record names is RETAINED (R115). -/
def rebuiltFrame (boards : Vector BoardRecord 32) (f : FrameId) : FrameEntry :=
  match allTags.find? fun t => boards[t].valid && boards[t].mapFrame == some f with
  | none => FrameEntry.free
  | some t => ⟨.retained, some t, some boards[t].pass⟩

/-- The key of a board in the rebuilt hold order: held time as an unsigned number, then tag (R179). -/
def holdKey (boards : Vector BoardRecord 32) (t : Tag) : Nat :=
  32 * ((boards[t].heldTime).getD 0).toNat + t.val

/-- The hold order rebuilt from every valid record (R179 step 2). -/
def rebuiltOrder (boards : Vector BoardRecord 32) : List Tag :=
  (allTags.filter fun t => boards[t].valid).insertionSort fun a b => holdKey boards a ≤ holdKey boards b

/-- An offset lies in the host header. -/
def inHostHeader (offset : Nat) : Bool := decide (0x100 ≤ offset) && decide (offset < 0x200)

/-- What every reset returns the part to, with the records and frames converted and the hold order rebuilt, and
exchange memory kept but for the host header, before any entry is appended (R176, R178, R179 steps 1 and 2). -/
def State.convert (s : State) : State :=
  let boards := s.tracker.boards.map BoardRecord.restart
  { s with
    lineTime := 0
    exchange :=
      { s.exchange with
        attn := attnRestart
        attnEn := 0
        scanPending := false
        writeIndex := 0
        mem := s.exchange.mem.clearWhere inHostHeader }
    cards := ⟨[], none⟩
    tables := Tables.reset
    tracker := Tracker.reset boards
    verifier := Verifier.reset
    sequencer := Sequencer.reset
    coverage := ⟨Vector.ofFn (rebuiltFrame boards)⟩
    cure := Cure.reset
    holds := ⟨Vector.replicate 8 .free, rebuiltOrder boards, []⟩
    line := ⟨.lost, none⟩
    ports := Ports.reset }

/-- A POWER_ON reset zeroes the whole of exchange memory, the board table and the directory with it (R177). The
zeroing is never cut: how much of it a reset that abandons a POWER_ON restart leaves done is not stated (DESIGN CHOICE,
notes/assumptions/30.md). -/
def State.zeroExchange (s : State) : State :=
  { s with
    exchange := { s.exchange with directory := Vector.replicate 64 ⟨.free, 0⟩, mem := [] }
    tracker := { s.tracker with boards := Vector.replicate 32 BoardRecord.blank } }

/-- The restart up to its first entry, LINE_MODE(LOST, previous mode 0, kind), which it appends at index 0 (R40,
R176 to R179). Its entries set ATTN.ACTIVITY beside RESTART (DEDUCED, notes/assumptions/6.md). No reset abandons the
restart inside this part (notes/assumptions/11.md), nor inside the zeroing of R177 (DESIGN CHOICE,
notes/assumptions/30.md). -/
def State.beginRestart (kind : ResetKind) (s : State) : State :=
  let kept := match kind with
    | .powerOn => s.zeroExchange
    | .supplyDip => s
    | .pin => s
  kept.convert.append (.lineMode .lost .lost (some kind))

/-! ### The resets (R175) -/

/-- The kind of a reset of which another cause was present before: POWER_ON before SUPPLY_DIP before PIN
(R175). -/
def ResetKind.join : ResetKind → ResetKind → ResetKind
  | .powerOn, _ => .powerOn
  | _, .powerOn => .powerOn
  | .supplyDip, _ => .supplyDip
  | _, .supplyDip => .supplyDip
  | .pin, .pin => .pin

/-- The kind of a reset with a cause: the causes that are present together give one kind; a reset that arrives
while the part runs or restarts has its kind determined afresh (R175). -/
def State.resetKind (cause : ResetKind) (s : State) : ResetKind :=
  match s.start with
  | .held kind => kind.join cause
  | .running => cause
  | .restarting _ => cause

/-- The START_STATUS bit of a reset kind (R44). -/
def ResetKind.bit : ResetKind → BitVec 3
  | .powerOn => 0b001
  | .supplyDip => 0b010
  | .pin => 0b100

/-- START_STATUS after a cause: a reset of kind POWER_ON sets its bit and clears the other two; SUPPLY_DIP and PIN
each set their own bit and leave the others (R44, R175). -/
def State.noteCause (cause : ResetKind) (s : State) : State :=
  { s with
    exchange := { s.exchange with
      startStatus :=
        if s.resetKind cause = .powerOn then ResetKind.powerOn.bit
        else s.exchange.startStatus ||| cause.bit } }

/-- A port of a part that is held in reset: its transmit line idles, and the frames that waited are lost (R186). -/
def PortState.silent : PortState := ⟨.awaitKind, [], []⟩

/-- A reset cause: the part is held, and a restart in progress is abandoned; when the last cause ends, the restart
runs from its beginning, as far as the command says. The part runs once the restart has appended its last entry
(R175 to R179). -/
def State.resetBy (cause : ResetKind) (extent : ResetExtent) (s : State) : State :=
  let kind := s.resetKind cause
  let s1 := s.noteCause cause
  match extent with
  | .held =>
    { s1 with
      start := .held kind
      ports := ⟨PortState.silent, PortState.silent, PortState.silent, PortState.silent⟩ }
  | .restart visits =>
    let s2 := (s1.beginRestart kind).visitAll (restartVisits.take visits)
    { s2 with start := if (restartVisits.drop visits).any s2.due then .restarting visits else .running }

/-- POWER_ON_RESET (R177); the queue of commands is outside the part (DESIGN CHOICE, notes/assumptions/1.md). -/
def execPowerOnReset (s : State) (extent : ResetExtent := .restart 96) : Host.Outcome State Fault Refusal :=
  .next (s.resetBy .powerOn extent)

/-- SUPPLY_DIP_RESET (R178). -/
def execSupplyDipReset (extent : ResetExtent) (s : State) : Host.Outcome State Fault Refusal :=
  .next (s.resetBy .supplyDip extent)

/-- PIN_RESET (R178). -/
def execPinReset (s : State) (extent : ResetExtent := .restart 96) : Host.Outcome State Fault Refusal :=
  .next (s.resetBy .pin extent)

end Sys2Proof.Machine
end

