-- ==== Sys2Proof/Machine/TableStore.lean ====
section
/-! DEFINITION. The Table Store's seven cards: APPLICATOR_LOAD, COATING_LOAD, RECIPE_LOAD, PATH_LOAD,
PATCH_SET, PATCH_CLEAR and OVEN_LOAD (chapter 3). -/

namespace Sys2Proof.Machine

/-- Changes the Table Store's items. -/
def State.mapTables (f : Tables → Tables) (s : State) : State := { s with tables := f s.tables }

/-! ### APPLICATOR_LOAD (R48-R50) -/

/-- The applicator an APPLICATOR_LOAD names. -/
def TakenCard.applicatorId (c : TakenCard) : ApplicatorId := Fin.ofNat 4 (c.u8 16)

/-- The checks of an APPLICATOR_LOAD: ranges, engagement, lock (R48-R50). -/
def State.applicatorLoadChecks (s : State) (c : TakenCard) : List Check :=
  c.applicatorChecks ++
    [ (s.sequencer.engaged == some c.applicatorId, result .refusedBusy [c.applicatorId.val]),
      (s.tables.applicators[c.applicatorId].lock && c.applicator.mode == .warn,
        result .refusedLocked [c.applicatorId.val]) ]

/-- APPLICATOR_LOAD (R49, R50): the entry is loaded; INTERLOCK sets its lock. -/
def applyApplicator (c : TakenCard) (s : State) : State × CardResult :=
  judge (s.applicatorLoadChecks c)
    (fun s =>
      let lock := s.tables.applicators[c.applicatorId].lock || c.applicator.mode == .interlock
      (s.mapTables fun k =>
          { k with applicators := k.applicators.set c.applicatorId ⟨some c.applicator, lock⟩ },
        result .ok [c.applicatorId.val, duty c.applicator.slotMask, if lock then 1 else 0])) s

/-- APPLICATOR_LOAD: the next taken card, of kind 1 (R49). -/
def execApplicatorLoad (s : State) : Host.Outcome State Fault Refusal :=
  .next (s.processCard (TakenCard.isKind 1) applyApplicator)

/-! ### COATING_LOAD (R51, R52) -/

/-- The coating a COATING_LOAD names. -/
def TakenCard.coatingId (c : TakenCard) : CoatingId := Fin.ofNat 4 (c.u8 16)

/-- REFUSED_IN_USE with the lowest in-use recipe that satisfies a condition (R52, R57). -/
def State.inUseCheck (s : State) (loaded : Bool) (p : Recipe → Bool) : Check :=
  match s.lowestInUse p with
  | none => (false, result .refusedInUse [])
  | some id => (loaded, result .refusedInUse [id.val])

/-- The checks of a COATING_LOAD (R51, R52). -/
def State.coatingLoadChecks (s : State) (c : TakenCard) : List Check :=
  c.coatingChecks ++ [s.inUseCheck s.tables.coatings[c.coatingId].isSome fun r => r.coating == c.coatingId]

/-- COATING_LOAD (R52). -/
def applyCoating (c : TakenCard) (s : State) : State × CardResult :=
  judge (s.coatingLoadChecks c)
    (fun s =>
      (s.mapTables fun k => { k with coatings := k.coatings.set c.coatingId (some c.coating) },
        result .ok [c.coatingId.val, if s.tables.coatings[c.coatingId].isSome then 1 else 0])) s

/-- COATING_LOAD: the next taken card, of kind 2 (R52). -/
def execCoatingLoad (s : State) : Host.Outcome State Fault Refusal :=
  .next (s.processCard (TakenCard.isKind 2) applyCoating)

/-! ### RECIPE_LOAD (R62-R65) -/

/-- The recipe a RECIPE_LOAD names. -/
def TakenCard.recipeId (c : TakenCard) : RecipeId := Fin.ofNat 16 (c.u8 16)

/-- An applicator entry is empty. -/
def State.applicatorEmpty (s : State) (a : ApplicatorId) : Bool := s.tables.applicators[a].record.isNone

/-- The first segment that names an empty applicator entry, from index i on (R64). -/
def State.firstUnknownApplicator (s : State) : Nat → List Segment → Option (ApplicatorId × Nat)
  | _, [] => none
  | i, g :: gs =>
    match g.applicator with
    | none => s.firstUnknownApplicator (i + 1) gs
    | some a => if s.applicatorEmpty a then some (a, i) else s.firstUnknownApplicator (i + 1) gs

/-- The checks of a RECIPE_LOAD (R62-R64). -/
def State.recipeLoadChecks (s : State) (c : TakenCard) : List Check :=
  let r := c.recipe
  let p := s.tables.programs[r.program]
  c.recipeChecks ++
    [ (p.state != .complete, result .refusedUnknown [1, r.program.val]),
      (s.tables.coatings[r.coating].isNone, result .refusedUnknown [2, r.coating.val]),
      (match s.firstUnknownApplicator 0 p.segments with
        | none => (false, result .refusedUnknown [3])
        | some (a, i) => (true, result .refusedUnknown [3, a.val, i])),
      (s.recipeInUse c.recipeId, result .refusedInUse [s.admissionsOf c.recipeId, s.recordsOf c.recipeId]) ]

/-- RECIPE_LOAD (R64): the entry is loaded, the static conflict report is formed (R65), and cells of
RETAINED frames are zeroed (R116). -/
def applyRecipe (c : TakenCard) (s : State) : State × CardResult :=
  judge (s.recipeLoadChecks c)
    (fun s =>
      let r := c.recipe
      let segments := s.tables.programs[r.program].segments
      let report := r.conflicts segments
      ((s.mapTables fun k => { k with recipes := k.recipes.set c.recipeId (some r) }).zeroForRecipe c.recipeId r,
        ⟨.ok, [word report.length, wordOrNone report.head?, word r.maskCount, word segments.length]⟩)) s

/-- RECIPE_LOAD: the next taken card, of kind 3 (R64). -/
def execRecipeLoad (s : State) : Host.Outcome State Fault Refusal :=
  .next (s.processCard (TakenCard.isKind 3) applyRecipe)

/-! ### PATH_LOAD (R56-R58) -/

/-- The program a PATH_LOAD or PATCH_SET names. -/
def TakenCard.programId (c : TakenCard) : ProgramId := Fin.ofNat 16 (c.u8 16)

/-- The checks of one record of a PATH_LOAD: detail word 1 is its position in the card (R56). -/
def TakenCard.recordChecks (c : TakenCard) (j : Nat) : List Check :=
  (c.segmentChecks (32 + 16 * j)).map fun p => (p.1, result .refusedRange [p.2, j])

/-- The checks of R56. -/
def TakenCard.pathChecks (c : TakenCard) : List Check :=
  [ (c.badLength 16, refusedAt 8),
    rangeCheck 16 (c.u8 16) 0 15,
    rangeCheck 17 (c.u8 17) 0 63,
    rangeCheck 18 (c.u8 18) 0 1,
    rangeCheck 19 (c.u8 19) 1 48,
    (c.badLength (16 + 16 * c.u8 19), refusedAt 8) ] ++ (List.range (c.u8 19)).flatMap c.recordChecks

/-- The segments of a PATH_LOAD, in card order. -/
def TakenCard.pathSegments (c : TakenCard) : List Segment :=
  (List.range (c.u8 19)).map fun j => c.segment (32 + 16 * j)

/-- The judgement of the chunk number (R57). -/
def State.chunkCheck (s : State) (c : TakenCard) : Check :=
  let p := s.tables.programs[c.programId]
  if c.u8 17 = 0 then s.inUseCheck true fun r => r.program == c.programId
  else
    (!(p.state == .building && p.lastChunk == some (c.u8 17 - 1)),
      ⟨.refusedSequence, [word p.state.code, wordOrNone p.lastChunk]⟩)

/-- The path store's free count (R53). -/
def Tables.freePlaces (k : Tables) : Nat :=
  Config.segmentPlaces - (k.programs.toList.map fun p => p.segments.length).sum

/-- How many loaded recipes name a program (R57, R66). -/
def Tables.recipesNaming (k : Tables) (p : ProgramId) : Nat :=
  (k.recipes.toList.filter fun r => match r with | none => false | some r => r.program == p).length

/-- Chunk 0 starts a program over: its segments and patches go, the recipes that name it are emptied,
and it is BUILDING with nothing accepted (R57). -/
def Tables.startOver (k : Tables) (p : ProgramId) : Tables :=
  { k with
    programs := k.programs.set p ⟨.building, [], none⟩
    patches := k.patches.map fun e => match e with
      | none => none
      | some e => if e.program = p then none else some e
    recipes := k.recipes.map fun r => match r with
      | none => none
      | some r => if r.program = p then none else some r }

/-- The room a chunk needs is short: 1 the store, 2 the limit of 512 segments (R58). -/
def Tables.short (k : Tables) (p : ProgramId) (count : Nat) : Option Nat :=
  if k.freePlaces < count then some 1
  else if Config.maxProgram < k.programs[p].segments.length + count then some 2
  else none

/-- An accepted chunk: its segments are appended (R58). -/
def Tables.addChunk (k : Tables) (p : ProgramId) (chunk : Nat) (last : Bool) (l : List Segment) : Tables :=
  { k with
    programs := k.programs.set p
      ⟨if last then .complete else k.programs[p].state, k.programs[p].segments ++ l, some chunk⟩ }

/-- A chunk past the checks of R57 is judged for room and appended, or its program is abandoned
(R57, R58). -/
def State.loadChunk (c : TakenCard) (s : State) : State × CardResult :=
  let p := c.programId
  let first := c.u8 17 == 0
  let emptied := if first then s.tables.recipesNaming p else 0
  let k := if first then s.tables.startOver p else s.tables
  match k.short p (c.u8 19) with
  | some why =>
    let k1 := { k with programs := k.programs.set p ⟨.empty, [], none⟩ }
    (s.mapTables fun _ => k1, result .refusedFull [why, k1.freePlaces, emptied])
  | none =>
    let k1 := k.addChunk p (c.u8 17) (c.u8 18 == 1) c.pathSegments
    (s.mapTables fun _ => k1,
      result .ok [k1.programs[p].segments.length, k1.freePlaces, k1.programs[p].state.code, emptied])

/-- PATH_LOAD (R56-R58). -/
def applyPath (c : TakenCard) (s : State) : State × CardResult :=
  judge (c.pathChecks ++ [s.chunkCheck c]) (fun s => s.loadChunk c) s

/-- PATH_LOAD: the next taken card, of kind 4 (R57). -/
def execPathLoad (s : State) : Host.Outcome State Fault Refusal :=
  .next (s.processCard (TakenCard.isKind 4) applyPath)

/-! ### PATCH_SET and PATCH_CLEAR (R59, R60) -/

/-- All patch entries, lowest first. -/
def allPatches : List (Fin 4) := List.finRange 4

/-- The lowest free patch entry. -/
def Tables.freePatch (k : Tables) : Option (Fin 4) := allPatches.find? fun e => k.patches[e].isNone

/-- How many patch entries are free. -/
def Tables.freePatches (k : Tables) : Nat := (allPatches.filter fun e => k.patches[e].isNone).length

/-- The enabled entry that names a program and segment index (R59, R61). -/
def Tables.enabledPatch (k : Tables) (p : ProgramId) (i : Nat) : Option (Fin 4) :=
  allPatches.find? fun e => match k.patches[e] with
    | none => false
    | some e => e.enabled && e.program == p && e.index == i

/-- The replacement segment record of a PATCH_SET. -/
def TakenCard.patch (c : TakenCard) : Patch where
  program := c.programId
  index := c.u16 18
  segment := c.segment 32
  enabled := c.u8 17 == 1

/-- The checks of a PATCH_SET, in order (R59). -/
def State.patchSetChecks (s : State) (c : TakenCard) : List Check :=
  let p := s.tables.programs[c.programId]
  [ (c.badLength 32, refusedAt 8),
    rangeCheck 16 (c.u8 16) 0 15,
    rangeCheck 17 (c.u8 17) 0 1,
    rangeCheck 18 (c.u16 18) 0 511 ]
    ++ (c.segmentChecks 32).map (fun q => (q.1, refusedAt q.2)) ++
    [ (p.state != .complete, result .refusedUnknown [1]),
      (decide (p.segments.length ≤ c.u16 18), refusedAt 18),
      (match c.patch.segment.applicator with
        | none => (false, result .refusedUnknown [3])
        | some a => (s.applicatorEmpty a, result .refusedUnknown [3, a.val])),
      (match s.tables.enabledPatch c.programId (c.u16 18) with
        | none => (false, result .refusedDuplicate [])
        | some e => (c.u8 17 == 1, result .refusedDuplicate [e.val])),
      (s.runningProgram == some c.programId, result .refusedBusy [c.programId.val]),
      (s.tables.freePatch.isNone, result .refusedFull []) ]

/-- PATCH_SET (R59): the lowest free entry is occupied. -/
def applyPatchSet (c : TakenCard) (s : State) : State × CardResult :=
  judge (s.patchSetChecks c)
    (fun s =>
      match s.tables.freePatch with
      | none => (s, result .refusedFull [])
      | some e =>
        (s.mapTables fun k => { k with patches := k.patches.set e (some c.patch) },
          result .ok [e.val, s.tables.freePatches - 1])) s

/-- PATCH_SET: the next taken card, of kind 5 (R59). -/
def execPatchSet (s : State) : Host.Outcome State Fault Refusal :=
  .next (s.processCard (TakenCard.isKind 5) applyPatchSet)

/-- The patch entry a PATCH_CLEAR names. -/
def TakenCard.patchId (c : TakenCard) : Fin 4 := Fin.ofNat 4 (c.u8 16)

/-- The checks of a PATCH_CLEAR, in order (R60). -/
def State.patchClearChecks (s : State) (c : TakenCard) : List Check :=
  [ (c.badLength 1, refusedAt 8),
    rangeCheck 16 (c.u8 16) 0 3,
    (s.tables.patches[c.patchId].isNone, result .refusedUnknown []),
    (match s.tables.patches[c.patchId] with
      | none => (false, result .refusedBusy [])
      | some e => (s.runningProgram == some e.program, result .refusedBusy [e.program.val])) ]

/-- PATCH_CLEAR (R60): the entry is freed. -/
def applyPatchClear (c : TakenCard) (s : State) : State × CardResult :=
  judge (s.patchClearChecks c)
    (fun s =>
      (s.mapTables fun k => { k with patches := k.patches.set c.patchId none },
        match s.tables.patches[c.patchId] with
        | none => result .ok []
        | some e => result .ok [e.program.val, e.index])) s

/-- PATCH_CLEAR: the next taken card, of kind 6 (R60). -/
def execPatchClear (s : State) : Host.Outcome State Fault Refusal :=
  .next (s.processCard (TakenCard.isKind 6) applyPatchClear)

/-! ### OVEN_LOAD (R67) -/

/-- The checks of an OVEN_LOAD (R67). -/
def State.ovenLoadChecks (s : State) (c : TakenCard) : List Check :=
  c.ovenChecks ++ [(!s.cure.oven.isEmpty, result .refusedInUse [s.cure.oven.length])]

/-- OVEN_LOAD (R67): the oven table is loaded, and the gate is re-examined at once. -/
def applyOven (c : TakenCard) (s : State) : State × CardResult :=
  judge (s.ovenLoadChecks c)
    (fun s =>
      ((s.mapTables fun k => { k with oven := some c.ovenTable }).driveGate, result .ok c.ovenTable.ends)) s

/-- OVEN_LOAD: the next taken card, of kind 7 (R67). -/
def execOvenLoad (s : State) : Host.Outcome State Fault Refusal :=
  .next (s.processCard (TakenCard.isKind 7) applyOven)

end Sys2Proof.Machine
end

