-- ==== Sys2Proof/Machine/Dispatch.lean ====
section
/-! DEFINITION. The meaning of each command: one arm for each constructor of `Instr`. -/

namespace Sys2Proof.Machine

def exec (i : Instr) (s : State) : Host.Outcome State Fault Refusal :=
  match i with
  | .hostMemoryWrite address data => Sys2Proof.Machine.execHostMemoryWrite address data s
  | .posting card upper => Sys2Proof.Machine.execPosting card upper s
  | .withdrawal card upper => Sys2Proof.Machine.execWithdrawal card upper s
  | .cardReturn card upper => Sys2Proof.Machine.execCardReturn card upper s
  | .lineCtlRun upper => Sys2Proof.Machine.execLineCtlRun upper s
  | .lineCtlFreeze upper => Sys2Proof.Machine.execLineCtlFreeze upper s
  | .lineCtlDrain upper => Sys2Proof.Machine.execLineCtlDrain upper s
  | .lineCtlOtherCode data => Sys2Proof.Machine.execLineCtlOtherCode data s
  | .attnWrite data => Sys2Proof.Machine.execAttnWrite data s
  | .attnEnWrite data => Sys2Proof.Machine.execAttnEnWrite data s
  | .startStatusWrite data => Sys2Proof.Machine.execStartStatusWrite data s
  | .registerWriteDropped address data => Sys2Proof.Machine.execRegisterWriteDropped address data s
  | .scan visits => Sys2Proof.Machine.execScan s visits
  | .refusedKind => Sys2Proof.Machine.execRefusedKind s
  | .applicatorLoad => Sys2Proof.Machine.execApplicatorLoad s
  | .coatingLoad => Sys2Proof.Machine.execCoatingLoad s
  | .recipeLoad => Sys2Proof.Machine.execRecipeLoad s
  | .pathLoad => Sys2Proof.Machine.execPathLoad s
  | .patchSet => Sys2Proof.Machine.execPatchSet s
  | .patchClear => Sys2Proof.Machine.execPatchClear s
  | .ovenLoad => Sys2Proof.Machine.execOvenLoad s
  | .admitCard => Sys2Proof.Machine.execAdmit s
  | .withdrawCard => Sys2Proof.Machine.execWithdraw s
  | .disposeRelease => Sys2Proof.Machine.execDisposeRelease s
  | .disposeScrap => Sys2Proof.Machine.execDisposeScrap s
  | .disposeRecoat => Sys2Proof.Machine.execDisposeRecoat s
  | .reclaimMap => Sys2Proof.Machine.execReclaimMap s
  | .declareClear => Sys2Proof.Machine.execDeclareClear s
  | .resumeCell => Sys2Proof.Machine.execResumeCell s
  | .arrival status serial => Sys2Proof.Machine.execArrival status serial s
  | .maskResult index value => Sys2Proof.Machine.execMaskResult index value s
  | .maskVerifyDeadlineExpiry => Sys2Proof.Machine.execMaskVerifyDeadlineExpiry s
  | .transferStart route => Sys2Proof.Machine.execTransferStart route s
  | .transferDone code => Sys2Proof.Machine.execTransferDone code s
  | .transferFault code => Sys2Proof.Machine.execTransferFault code s
  | .transferDeadlineExpiry route => Sys2Proof.Machine.execTransferDeadlineExpiry route s
  | .segStarted tag index => Sys2Proof.Machine.execSegStarted tag index s
  | .segDone tag index => Sys2Proof.Machine.execSegDone tag index s
  | .motionFault diagnostic => Sys2Proof.Machine.execMotionFault diagnostic s
  | .segmentDeadlineExpiry => Sys2Proof.Machine.execSegmentDeadlineExpiry s
  | .pressure applicator kPa => Sys2Proof.Machine.execPressure applicator kPa s
  | .pressureSilenceDeadlineExpiry applicator => Sys2Proof.Machine.execPressureSilenceDeadlineExpiry applicator s
  | .guard state => Sys2Proof.Machine.execGuard state s
  | .flashOffDeadlineExpiry tag => Sys2Proof.Machine.execFlashOffDeadlineExpiry tag s
  | .openTimeDeadlineExpiry tag => Sys2Proof.Machine.execOpenTimeDeadlineExpiry tag s
  | .entrySeen => Sys2Proof.Machine.execEntrySeen s
  | .ovenSample readings delta => Sys2Proof.Machine.execOvenSample readings delta s
  | .ovenSilent => Sys2Proof.Machine.execOvenSilent s
  | .exitSeen => Sys2Proof.Machine.execExitSeen s
  | .slotState slot report => Sys2Proof.Machine.execSlotState slot report s
  | .recoatExpired tag => Sys2Proof.Machine.execRecoatExpired tag s
  | .lineTimeTick => Sys2Proof.Machine.execLineTimeTick s
  | .powerOnReset extent => Sys2Proof.Machine.execPowerOnReset s extent
  | .supplyDipReset extent => Sys2Proof.Machine.execSupplyDipReset extent s
  | .pinReset extent => Sys2Proof.Machine.execPinReset s extent
  | .frameDiscarded port bytes => Sys2Proof.Machine.execFrameDiscarded port bytes s
  | .frameTransmit port => Sys2Proof.Machine.execFrameTransmit port s
  | .frameAbandoned port bytes => Sys2Proof.Machine.execFrameAbandoned port bytes s
  | .missingStopBit port bytes => Sys2Proof.Machine.execMissingStopBit port bytes s

end Sys2Proof.Machine
end

