-- ==== Sys2Proof/Machine/View.lean ====
section
/-! DEFINITION. What the host reads: the part header (R25), the card directory (R27), the board table (R7,
R8), the rest of exchange memory (R24), and the registers (R22, R41-R44). Mirrored words have one home and
are computed here (DEDUCED, notes/assumptions/5.md); a read changes no state and is no command
(notes/assumptions/12.md). -/

namespace Sys2Proof.Machine

/-! ### Board records as bytes (R8) -/

/-- A time field: the time, or the free value of an absent one. -/
def timeBytes (seed field : Nat) (t : Option Time) : List Byte := le32 (t.getD (Config.absentTime seed field))

/-- The times-present set. -/
def BoardRecord.timesPresent (b : BoardRecord) : Byte :=
  let bit (t : Option Time) (n : Nat) : Nat := if t.isSome then 2 ^ n else 0
  byte (bit b.admittedTime 0 + bit b.sprayStart 1 + bit b.sprayEnd 2 + bit b.ovenEntry 3 + bit b.ovenExit 4
    + bit b.heldTime 5 + bit b.recoatDeadline 6)

/-- The first failing column and row, 0xFF 0xFF where absent. -/
def cellBytes : Option (Nat × Nat) → List Byte
  | none => [0xFF, 0xFF]
  | some c => [byte c.1, byte c.2]

/-- The fields of a record that has been written, in the layout of R8. -/
def BoardRecord.fields (t : Tag) (b : BoardRecord) : List Byte :=
  [flag b.valid, byte t.val, byte b.stage.code, byte b.pass] ++ le64 b.serial
    ++ [byte b.recipe.val, byte b.verdict.code, byte b.location.kindCode, byte b.location.slotCode]
    ++ le32 b.reasons ++ [frameByte b.mapFrame, flag b.recoatOpen] ++ indexBytes b.lastSegment
    ++ b.maskResults.toList.map (fun r => byte r.code)
    ++ timeBytes b.seed 0 b.admittedTime ++ timeBytes b.seed 1 b.sprayStart ++ timeBytes b.seed 2 b.sprayEnd
    ++ timeBytes b.seed 3 b.ovenEntry ++ timeBytes b.seed 4 b.ovenExit ++ timeBytes b.seed 5 b.heldTime
    ++ timeBytes b.seed 6 b.recoatDeadline
    ++ le16 b.dose ++ le16 b.position ++ le16 b.conflicts ++ indexBytes b.firstConflict
    ++ le16 b.thinCells ++ le16 b.thickCells ++ cellBytes b.firstFailing ++ [b.timesPresent]

/-- The record of a tag as it stands in the board table: zero while it is as a POWER_ON reset left it
(R10). Bytes 75 to 127 are zero (R8). -/
def BoardRecord.bytes (t : Tag) (b : BoardRecord) : List Byte := if b.written then b.fields t else []

/-! ### The part header (R25) -/

/-- The frame table copy of a frame. -/
def FrameEntry.bytes (e : FrameEntry) : List Byte :=
  [byte e.state.code, tagByte e.owner, byte (e.pass.getD 0), 0]

/-- The part header; the words after these are zero. -/
def State.partHeader (s : State) : List Byte :=
  le32 Config.identity ++ le32 s.lineCtl ++ le32 s.lineTime ++ [s.exchange.writeIndex, 0, 0, 0]
    ++ s.coverage.frames.toList.flatMap FrameEntry.bytes

/-- A directory entry (R27). -/
def DirectoryEntry.bytes (e : DirectoryEntry) : List Byte := [byte e.state.code, e.status, 0, 0]

/-! ### Reads (R22, R24) -/

/-- The byte of exchange memory at a byte offset; an unmapped one reads 0. -/
def State.readByte (s : State) (offset : Nat) : Byte :=
  if offset < 0x100 then s.partHeader.getD offset 0
  else if offset < 0x200 then s.exchange.mem.read offset
  else if offset < 0x300 then
    (s.exchange.directory[(Fin.ofNat 64 ((offset - 0x200) / 4) : CardId)]).bytes.getD ((offset - 0x200) % 4) 0
  else if offset < 0x1000 then 0
  else if offset < 0x2000 then s.exchange.mem.read offset
  else if offset < 0x3000 then
    let t : Tag := Fin.ofNat 32 ((offset - 0x2000) / 128)
    ((s.record t).bytes t).getD ((offset - 0x2000) % 128) 0
  else if offset < 0x4000 then 0
  else if offset < Config.memoryBytes then s.exchange.mem.read offset
  else 0

/-- A host read returns 0 while the part is held in reset or restarts (R175). -/
def State.servedRead (s : State) (w : Word) : Word :=
  match s.start with
  | .running => w
  | .held _ => 0
  | .restarting _ => 0

/-- The word a host read returns with the register select inactive (R22, R24, R175). -/
def State.hostRead (s : State) (address : BitVec 15) : Word :=
  let o := byteOffset address
  s.servedRead (word (ofLe [s.readByte o, s.readByte (o + 1), s.readByte (o + 2), s.readByte (o + 3)]))

/-- The word a host read of a register position returns (R22, R41-R44, R175). -/
def State.readRegister (s : State) (position : BitVec 3) : Word :=
  s.servedRead <| match position.toNat with
  | 0 => Config.identity
  | 1 => s.lineCtl
  | 2 => s.exchange.attn.setWidth 32
  | 3 => s.exchange.attnEn.setWidth 32
  | 4 => s.exchange.startStatus.setWidth 32
  | _ => 0

end Sys2Proof.Machine
end

