-- ==== Sys2Proof/WellFormed.lean ====
section
/-! DEFINITION. Well-formed commands: the operands that the row of each command names. `exec` gives every
command an effect; an ill-formed one is a host write or a byte sequence that belongs to another row. -/

namespace Sys2Proof

open Machine

/-- The code is 1 or 2. -/
def oneOrTwo (b : Byte) : Bool := b.toNat == 1 || b.toNat == 2

/-- The codes of a received message are ones that section 11.3 defines (R183). -/
def Instr.codesDefined : Instr → Bool
  | .arrival status _ => oneOrTwo status
  | .maskResult _ value => oneOrTwo value
  | .slotState _ report => oneOrTwo report
  | .guard state => oneOrTwo state
  | .motionFault diagnostic => decide (diagnostic.length ≤ 32)
  | _ => true

/-- A frame that the port would deliver (R183). -/
def delivers (p : Port) (f : Frame) : Bool :=
  match f.command p with
  | none => false
  | some c => c.codesDefined

/-- The framing state after bytes, and whether no frame among them would be delivered. -/
def receiveQuietly (p : Port) : Receiver → List Byte → Receiver × Bool
  | r, [] => (r, true)
  | r, b :: bs =>
    let (r1, f) := r.take b
    let (r2, quiet) := receiveQuietly p r1 bs
    (r2, quiet && !(f.any fun f => delivers p f))

/-- Bytes received from AWAIT_KIND that deliver nothing. -/
def quietBytes (p : Port) (bytes : List Byte) : Bool := (receiveQuietly p .awaitKind bytes).2

/-- The receiver stands between frames, or discards until a pause (R181). -/
def settled : Receiver → Bool
  | .awaitKind => true
  | .discarding => true
  | _ => false

/-- The mode code of a LINE_CTL word is none of 1-3 (R41). -/
def otherCode (data : Word) : Bool :=
  let code := (data.extractLsb' 0 8).toNat
  !(code == 1 || code == 2 || code == 3)

/-- The position is ID or unused (R22). -/
def droppedPosition (address : BitVec 15) : Bool :=
  let position := (address.extractLsb' 0 3).toNat
  position == 0 || position == 5 || position == 6 || position == 7

/-- A command whose operands are those its row names. -/
def Instr.wellFormed : Instr → Bool
  | .lineCtlOtherCode data => otherCode data
  | .registerWriteDropped address _ => droppedPosition address
  | .arrival status serial => (Instr.arrival status serial).codesDefined
  | .maskResult index value => (Instr.maskResult index value).codesDefined
  | .slotState slot report => (Instr.slotState slot report).codesDefined
  | .guard state => (Instr.guard state).codesDefined
  | .motionFault diagnostic => (Instr.motionFault diagnostic).codesDefined
  | .frameDiscarded p bytes => quietBytes p bytes && settled (receiveQuietly p .awaitKind bytes).1
  | .frameAbandoned p bytes => quietBytes p bytes
  | .missingStopBit p bytes => quietBytes p bytes
  | _ => true

end Sys2Proof
end

