-- ==== Sys2Proof/Safety.lean ====
section
/-! DEFINITION. The laws of the CL-740 as the spec states them, as properties of a state or of two states,
and the words the statements use. -/

namespace Sys2Proof.Machine

/-! ### Words of the statements -/

/-- The part is neither held in reset nor in a restart (R175). -/
abbrev State.running (s : State) : Prop := s.start = .running

/-- The part runs, and a port's receiver stands between two frames. -/
abbrev State.idlePort (s : State) (p : Port) : Prop := s.running ∧ s.receiver p = .awaitKind

/-- The part runs, no walk is in progress, the next taken card is `c`, and `rest` waits behind it. -/
abbrev State.nextCard (s : State) (c : TakenCard) (rest : List TakenCard) : Prop :=
  s.running ∧ s.cards = ⟨c :: rest, none⟩

/-- The held segment is wet for an applicator (R82). -/
def Sequencer.wetSegment (q : Sequencer) : Option ApplicatorId := q.segment.bind HeldSegment.wet

/-- Bytes of exchange memory, from an offset on. -/
def State.bytesAt (s : State) (offset size : Nat) : List Byte := (List.range size).map fun i => s.readByte (offset + i)

/-- The seven time fields of a record, in the order of the record and of the times-present set (R8). -/
def BoardRecord.times (b : BoardRecord) : List (Option Time) :=
  [b.admittedTime, b.sprayStart, b.sprayEnd, b.ovenEntry, b.ovenExit, b.heldTime, b.recoatDeadline]

/-- The record of tag n stands in the board table in the layout of R8. What an absent time reads as is open
(notes/assumptions/7.md). -/
structure State.showsRecord (s : State) (n : Tag) : Prop where
  head : s.bytesAt (0x2000 + 128 * n.val) 4 =
    [if (s.record n).valid then 1 else 0, byte n.val, byte (s.record n).stage.code, byte (s.record n).pass]
  serial : s.bytesAt (0x2000 + 128 * n.val + 4) 8 =
    (List.range 8).map fun i => (s.record n).serial.extractLsb' (8 * i) 8
  recipe : s.bytesAt (0x2000 + 128 * n.val + 12) 2 =
    [byte (s.record n).recipe.val, byte (s.record n).verdict.code]
  location : s.bytesAt (0x2000 + 128 * n.val + 14) 2 =
    match (s.record n).location with
    | .none => [0, 0]
    | .slot m => if m.val < 6 then [2, byte m.val] else [1, byte (m.val - 6)]
    | .removed => [3, 0]
  reasons : s.bytesAt (0x2000 + 128 * n.val + 16) 4 = le32 (s.record n).reasons
  mapFrame : s.bytesAt (0x2000 + 128 * n.val + 20) 2 =
    [match (s.record n).mapFrame with | none => 0xFF | some f => byte f.val, if (s.record n).recoatOpen then 1 else 0]
  lastSegment : s.bytesAt (0x2000 + 128 * n.val + 22) 2 =
    match (s.record n).lastSegment with | none => [0xFF, 0xFF] | some i => le16 i
  masks : s.bytesAt (0x2000 + 128 * n.val + 24) 8 = (s.record n).maskResults.toList.map fun r => byte r.code
  times : ∀ (k : Nat) (t : Time), (s.record n).times[k]? = some (some t) →
    s.bytesAt (0x2000 + 128 * n.val + 32 + 4 * k) 4 = le32 t
  present : ∀ k < 8, (s.readByte (0x2000 + 128 * n.val + 74)).getLsbD k =
    match (s.record n).times[k]? with | some (some _) => true | _ => false
  counts : s.bytesAt (0x2000 + 128 * n.val + 60) 6 =
    le16 (s.record n).dose ++ le16 (s.record n).position ++ le16 (s.record n).conflicts
  firstConflict : s.bytesAt (0x2000 + 128 * n.val + 66) 2 =
    match (s.record n).firstConflict with | none => [0xFF, 0xFF] | some i => le16 i
  film : s.bytesAt (0x2000 + 128 * n.val + 68) 6 = le16 (s.record n).thinCells ++ le16 (s.record n).thickCells ++
    match (s.record n).firstFailing with | none => [0xFF, 0xFF] | some c => [byte c.1, byte c.2]
  rest : ∀ i, 75 ≤ i → i < 128 → s.readByte (0x2000 + 128 * n.val + i) = 0

/-- The part header stands at the foot of exchange memory in the layout of R25. -/
structure State.showsHeader (s : State) : Prop where
  words : s.bytesAt 0 16 =
    le32 0x00010740 ++ le32 s.lineCtl ++ le32 s.lineTime ++ [s.exchange.writeIndex, 0, 0, 0]
  frames : ∀ f : FrameId, s.bytesAt (0x10 + 4 * f.val) 4 =
    [byte s.coverage.frames[f].state.code,
      match s.coverage.frames[f].owner with | none => 0xFF | some n => byte n.val,
      match s.coverage.frames[f].pass with | none => 0 | some p => byte p, 0]
  rest : ∀ o, 0x30 ≤ o → o < 0x100 → s.readByte o = 0

/-- A change of the line mode up to the loader-ready level: the mode is recorded, LINE_MODE appended, and the
Board Tracker takes the new mode (R169). -/
def State.enterMode (s : State) (new : LineMode) : State :=
  (({ s with line := { s.line with mode := new } } : State).append (.lineMode new s.line.mode none)).driveLoader

/-- The applicator may spray: it is in WARN mode, or its monitor IN_BAND (R88). -/
def State.sprays (s : State) (a : ApplicatorId) : Prop :=
  (s.applicator a).mode = .warn ∨ s.sequencer.monitors[a].state = .inBand

/-- What the cell does with a mode RUN or DRAIN and the guard CLOSED: one that is PAUSED leaves it, fetching the
next segment where no wet one is held, and sending the held one or waiting INTERLOCKED on it otherwise (R102). -/
def State.cellResumes (s t : State) : Prop :=
  (s.sequencer.cell ≠ .paused ∨ s.sequencer.guard = .opened ∨ s.cellBoard = none → t = s) ∧
  ∀ n : Tag, s.sequencer.cell = .paused → s.sequencer.guard = .closed → s.cellBoard = some n →
    (s.sequencer.wetSegment = none → t = (s.setCell .running none).fetch n) ∧
    ∀ a, s.sequencer.wetSegment = some a →
      (s.sprays a → t = (s.setCell .running none).sendSegment n) ∧ (¬s.sprays a → t = s.setCell .interlocked none)

/-- What an event answers from `u`, the state after its own effects: where it leaves the line empty in DRAIN, the
mode becomes READY in the same event (R11, R170). -/
def State.endsDrain (u : State) (lineEmpty : Prop) (t : State) : Prop :=
  (u.line.mode = .drain → lineEmpty → t = (u.enterMode .ready).driveGate) ∧
    (u.line.mode ≠ .drain ∨ ¬lineEmpty → t = u)

/-- The hold order of `t` is that of `s` with tag n, held at `time`, behind every board of it but the last ones with
that held time and a higher tag; boards kept across a reset stand ahead of all (R158, notes/assumptions/17.md). -/
def State.joinsHolds (s t : State) (n : Tag) (time : Time) : Prop :=
  let passes (m : Tag) : Prop := (s.record m).heldTime = some time ∧ n < m
  t.holds.kept = s.holds.kept ∧
    ∀ before after : List Tag, s.holds.since = before ++ after → (∀ m ∈ after, passes m) →
      (∀ m, before.getLast? = some m → ¬passes m) → t.holds.since = before ++ n :: after

/-- The kind of a reset: that of its cause, or, where the part is held, the first of POWER_ON, SUPPLY_DIP and PIN
among the causes so far (R175). -/
def State.joinedKind (s : State) (cause : ResetKind) : ResetKind :=
  match s.start with
  | .running => cause
  | .restarting _ => cause
  | .held kind =>
    if kind = .powerOn ∨ cause = .powerOn then .powerOn
    else if kind = .supplyDip ∨ cause = .supplyDip then .supplyDip else .pin

/-- A number lies in a range, both ends included. -/
abbrev within (n lo hi : Nat) : Prop := lo ≤ n ∧ n ≤ hi

/-- The body length of a card is at least `least`, and at most 976 (R33). -/
abbrev TakenCard.longEnough (c : TakenCard) (least : Nat) : Prop := within c.bodyLength.toNat least 976

/-- The segment record at a card offset is in range, field by field as its kind uses them (R54). -/
structure TakenCard.segmentFits (c : TakenCard) (b : Nat) : Prop where
  kind : within (c.u8 b) 1 3
  applicator : c.u8 b ≠ 2 → c.u8 (b + 1) ≤ 3
  direction : c.u8 b = 1 → within (c.u8 (b + 2)) 1 4
  column : c.u8 (b + 3) ≤ 63
  row : c.u8 (b + 4) ≤ 47
  length : c.u8 b = 1 → within (c.u8 (b + 5)) 1 64
  width : c.u8 b ≠ 2 → within (c.u8 (b + 6)) 1 8
  trim : c.u8 b ≠ 2 → within (c.u8 (b + 7)) 50 150
  speed : c.u8 b ≠ 3 → within (c.u16 (b + 8)) 5 500
  dwell : c.u8 b = 3 → within (c.u16 (b + 10)) 1 60000

/-- The body of an APPLICATOR_LOAD is in range (R48). -/
structure TakenCard.applicatorFits (c : TakenCard) : Prop where
  length : c.longEnough 13
  index : c.u8 16 ≤ 3
  kind : within (c.u8 17) 1 4
  flow : within (c.u16 18) 1 4095
  nominal : within (c.u16 20) 50 1023
  efficiency : within (c.u8 22) 1 100
  slotMask : c.byteAt 23 ≠ 0
  bandLow : c.u16 24 ≤ 1023
  bandHigh : within (c.u16 26) (c.u16 24 + 20) 1023
  mode : within (c.u8 28) 1 2

/-- The body of a COATING_LOAD is in range (R51). -/
structure TakenCard.coatingFits (c : TakenCard) : Prop where
  length : c.longEnough 48
  index : c.u8 16 ≤ 3
  solids : within (c.u8 17) 10 100
  flashMin : c.u16 18 ≤ 3600
  openMax : within (c.u16 20) 1 7200 ∧ c.u16 18 ≤ c.u16 20
  scorch : c.u16 22 ≤ 400
  dose : c.u16 24 ≤ c.u16 26
  window : within (c.u16 28) 1 1440
  bound : ∀ b < 8, c.u16 (32 + 4 * b) ≤ 400
  rising : ∀ b < 7, c.u16 (32 + 4 * b) < c.u16 (36 + 4 * b)

/-- Zone z of a RECIPE_LOAD is in range on the card's grid (R63). -/
structure TakenCard.zoneFits (c : TakenCard) (z : Nat) : Prop where
  cls : within (c.u8 (36 + 6 * z)) 1 4
  columns : c.u8 (37 + 6 * z) ≤ c.u8 (39 + 6 * z) ∧ c.u8 (39 + 6 * z) < c.u8 17
  rows : c.u8 (38 + 6 * z) ≤ c.u8 (40 + 6 * z) ∧ c.u8 (40 + 6 * z) < c.u8 18

/-- The body of a RECIPE_LOAD is in range (R62, R63). -/
structure TakenCard.recipeFits (c : TakenCard) : Prop where
  length : c.longEnough (20 + 6 * c.u8 34)
  index : c.u8 16 ≤ 15
  columns : within (c.u8 17) 4 64
  rows : within (c.u8 18) 4 48
  program : c.u8 19 ≤ 15
  coating : c.u8 20 ≤ 3
  maskPolicy : within (c.u8 21) 1 2
  conflictPolicy : within (c.u8 22) 1 2
  recoatLimit : c.u8 23 ≤ 2
  timeout : within (c.u16 24) 100 10000
  coat : c.u16 26 ≤ c.u16 28 ∧ c.u16 28 ≤ 4095
  thin : c.u16 30 ≤ c.u16 32 ∧ c.u16 32 ≤ 4095
  count : c.u8 34 ≤ 24
  zones : ∀ z < c.u8 34, c.zoneFits z
  masks : ((List.range (c.u8 34)).filter fun z => c.u8 (36 + 6 * z) == 2).length ≤ 8

/-- The body of a PATH_LOAD is in range (R54, R56). -/
structure TakenCard.pathFits (c : TakenCard) : Prop where
  length : c.longEnough (16 + 16 * c.u8 19)
  program : c.u8 16 ≤ 15
  chunk : c.u8 17 ≤ 63
  last : c.u8 18 ≤ 1
  count : within (c.u8 19) 1 48
  records : ∀ j < c.u8 19, c.segmentFits (32 + 16 * j)

/-- The body of an OVEN_LOAD is in range (R67). -/
structure TakenCard.ovenFits (c : TakenCard) : Prop where
  length : c.longEnough 16
  zones : ∀ z < 6, within (c.u16 (16 + 2 * z)) 1 20000
  total : c.u16 16 + c.u16 18 + c.u16 20 + c.u16 22 + c.u16 24 + c.u16 26 ≤ 65535
  tolerance : c.u16 28 ≤ 2000
  spacing : c.u16 30 ≤ 20000

/-- A recipe in use that satisfies a condition, and no lower one does (R46). -/
def State.lowestUser (s : State) (p : Recipe → Prop) (id : RecipeId) : Prop :=
  (s.recipeInUse id = true ∧ p (s.recipe id)) ∧ ∀ j < id, ¬(s.recipeInUse j = true ∧ p (s.recipe j))

/-- No recipe in use satisfies a condition. -/
def State.noUser (s : State) (p : Recipe → Prop) : Prop := ∀ id, ¬(s.recipeInUse id = true ∧ p (s.recipe id))

/-- Offsets of the part-writable windows other than the cards: the part header, the activity list, the
board table and the map frames (R24). -/
abbrev partWritable (offset : Nat) : Prop :=
  offset < 0x100 ∨ (0x1000 ≤ offset ∧ offset < 0x3000) ∨ (0x14000 ≤ offset ∧ offset < 0x20000)

/-- An offset lies in card n (R31). -/
abbrev inCard (n : CardId) (offset : Nat) : Prop := cardAt n ≤ offset ∧ offset < cardAt n + 1024

/-- Memory reads as before outside `size` bytes at `base`. -/
def sameOutside (s t : State) (base size : Nat) : Prop :=
  ∀ a, a < base ∨ base + size ≤ a → t.exchange.mem.read a = s.exchange.mem.read a

/-- The end of the first k oven zones, in conveyor counts from the entry (R67). -/
def State.zoneEnd (s : State) (k : Nat) : Nat := (s.oven.lengths.toList.take k).sum

/-- `w` is the weight of a temperature: that of the first cure band whose upper bound is at or above it, or that
of band 7 where every bound lies below it (R140). -/
def Coating.weighs (c : Coating) (temperature w : Nat) : Prop :=
  (∃ k : Fin 8, temperature ≤ c.bands[k].bound ∧ (∀ j < k, c.bands[j].bound < temperature) ∧
    w = c.bands[k].weight) ∨ ((∀ k : Fin 8, c.bands[k].bound < temperature) ∧ w = c.bands[7].weight)

/-! ### Laws of a state -/

/-- The memory keeps its canonical form. -/
abbrev State.canonical (s : State) : Prop := s.exchange.mem.wf

/-- Every map cell holds at most 4095 (R116). -/
def State.filmLaw (s : State) : Prop :=
  ∀ (f : FrameId) (column row : Nat), column < 64 → row < 48 → s.exchange.mem.cell f (column, row) ≤ 4095

/-- How many frames are ACTIVE. -/
def State.activeFrames (s : State) : Nat :=
  (s.coverage.frames.toList.filter fun e => e.state == .active).length

/-- The law of the spray cell: a segment is in flight only in RUNNING and waits only in INTERLOCKED or
PAUSED; a valve is open only in phase STARTED, for the wet segment's applicator; the routes into and out of
the cell are not IDLE only in LOADING and UNLOADING (R82, R84, R90, R105). -/
structure State.cellLaw (s : State) : Prop where
  flying : s.sequencer.inFlight = true → s.sequencer.cell = .running
  waiting : s.sequencer.phase = .waiting →
    (s.sequencer.cell = .interlocked ∨ s.sequencer.cell = .paused) ∧ s.sequencer.wetSegment ≠ none
  valve : ∀ a, s.sequencer.valve = some a → s.sequencer.phase = .started ∧ s.sequencer.wetSegment = some a
  infeed : s.tracker.infeedToCell ≠ .idle → s.sequencer.cell = .loading
  outfeed : s.tracker.cellToFlash ≠ .idle → s.sequencer.cell = .unloading

/-- The law of the frame table: at most one frame is ACTIVE, none while the cell is IDLE or LOADING, and at
most four are RESERVED (R109). -/
structure State.frameLaw (s : State) : Prop where
  active : s.activeFrames ≤ 1
  unused : s.sequencer.cell = .idle ∨ s.sequencer.cell = .loading → s.activeFrames = 0
  reserved : s.reservedFrames ≤ 4

/-- The law of the lists: no list holds more than its capacity (R1, R13, R137). -/
structure State.listLaw (s : State) : Prop where
  admissions : s.tracker.admissions.length ≤ 16
  mask : s.tracker.mask.length ≤ 1
  infeed : s.tracker.infeed.length ≤ 2
  cell : s.tracker.cell.length ≤ 1
  flashOff : s.tracker.flashOff.length ≤ 4
  cool : s.tracker.cool.length ≤ 3
  oven : s.cure.oven.length ≤ 12

/-- What keeps the list law: room is left for a board on its way into a list, and the gate is open only
while the oven list has room (R13, R131). -/
structure State.roomLaw (s : State) : Prop where
  infeed : s.tracker.maskToInfeed ≠ .idle → s.tracker.infeed.length ≤ 1
  cell : s.sequencer.cell = .idle ∨ s.sequencer.cell = .loading → s.tracker.cell = []
  flashOff : s.tracker.cellToFlash ≠ .idle → s.tracker.flashOff.length ≤ 3
  oven : s.cure.gate = .opened → s.cure.oven.length < 12

/-- The tags of the valid records, ascending. -/
def State.validTags (s : State) : List Tag := allTags.filter fun t => (s.record t).valid

/-- The serials of the admission entries and of the valid board records. -/
def State.serials (s : State) : List Serial :=
  s.tracker.admissions.map (·.serial) ++ s.validTags.map fun t => (s.record t).serial

/-- The law of R2: a serial appears at most once among them. -/
def State.serialLaw (s : State) : Prop := s.serials.Nodup

/-- The law of the receivers: each stands between two frames, or discards until a pause. Commands that are well
formed carry whole frames, or end what they begin, and leave no receiver inside a frame (R181,
notes/assumptions/19.md). -/
def State.receiversSettled (s : State) : Prop := ∀ p : Port, settled (s.receiver p) = true

/-! ### Laws of two states -/

/-- A record valid before and after keeps its identity, its pass and its recipe, and its reasons (R8, R12). -/
def State.recordsKept (s t : State) : Prop :=
  ∀ n : Tag, (s.record n).valid = true → (t.record n).valid = true →
    (t.record n).serial = (s.record n).serial ∧ (t.record n).recipe = (s.record n).recipe ∧
      (t.record n).pass = (s.record n).pass ∧
      ∀ r : Reason, (s.record n).hasReason r = true → (t.record n).hasReason r = true

/-- A recipe in use, its coating where it is loaded, and its path program where it is COMPLETE, stand as they
were (R46). -/
def State.tablesKept (s t : State) : Prop :=
  ∀ id : RecipeId, s.recipeInUse id = true →
    t.tables.recipes[id] = s.tables.recipes[id] ∧
      (s.tables.coatings[(s.recipe id).coating].isSome = true →
        t.tables.coatings[(s.recipe id).coating] = s.tables.coatings[(s.recipe id).coating]) ∧
      (s.tables.programs[(s.recipe id).program].state = .complete →
        t.tables.programs[(s.recipe id).program] = s.tables.programs[(s.recipe id).program])

/-- A command that is no reset. -/
def ordinary : Instr → Prop
  | .powerOnReset _ => False
  | .supplyDipReset _ => False
  | .pinReset _ => False
  | _ => True

end Sys2Proof.Machine
end

