-- ==== Sys2Proof/Certificates/Slice0/Obligations.lean ====
section
/-! DEFINITION. The statements about the CL-740, one definition each. -/

open Sys2Proof Sys2Proof.Machine

/-! ### The queue -/

/-- A step runs the command at the front of the queue on the state with the queue's rest, and idles on an
empty queue: the form of a block's step (notes/assumptions/1.md). -/
def Obligations.FrontCommandRuns : Prop :=
  (∀ (c : Instr) (s : State), step { s with pending := c :: s.pending } = exec c s) ∧
    ∀ s : State, s.pending = [] → step s = .next s

/-! ### The host port (chapter 2) -/

/-- While the part runs, a host word write to the host header, or to a card whose entry is FREE or POSTED, stores
its word at byte offset four times the address and changes nothing else; one to a part-writable or unmapped window,
or to a card whose entry is TAKEN or DONE, sets ATTN.REFUSED and changes nothing else. One to a directory entry is
judged on its state byte: a posting of a FREE entry, a withdrawal of a POSTED one and the return of a DONE one are
accepted, with zero stored in bytes 1-3, and every other sets ATTN.REFUSED alone. A read returns the four bytes at
its offset: the part header, the directory and the board table show the state, a record not written since POWER_ON
reads as zero, and so does an unmapped word. While the part is held in reset or restarts, a write is ignored and a
read returns 0 (R7, R8, R10, R22, R24-R27, R31, R175; that a write is judged by its word and place, whatever row it
came under: notes/assumptions/4.md). -/
def Obligations.HostMemoryWritesFollowTheWindow : Prop :=
  (∀ (address : BitVec 15) (data : Word) (s : State), s.running → s.canonical →
    let o := 4 * address.toNat
    (((0x100 ≤ o ∧ o < 0x200) ∨
        ∃ n : CardId, inCard n o ∧
          (s.exchange.directory[n].state = .free ∨ s.exchange.directory[n].state = .posted)) →
      ∃ t, exec (.hostMemoryWrite address data) s = .next t ∧ t.hostRead address = data ∧ sameOutside s t o 4 ∧
        t.canonical ∧ t = { s with exchange := { s.exchange with mem := t.exchange.mem } }) ∧
    ((partWritable o ∨ (0x300 ≤ o ∧ o < 0x1000) ∨ (0x3000 ≤ o ∧ o < 0x4000) ∨
        ∃ n : CardId, inCard n o ∧
          (s.exchange.directory[n].state = .taken ∨ s.exchange.directory[n].state = .done)) →
      exec (.hostMemoryWrite address data) s =
        .next { s with exchange := { s.exchange with attn := s.exchange.attn ||| 0b00100 } })) ∧
  (∀ (n : CardId) (data : Word) (upper : BitVec 24) (s : State), s.running →
    let posted : State := { s with exchange :=
      { s.exchange with scanPending := true, directory := s.exchange.directory.set n ⟨.posted, 0⟩ } }
    let freed : State := { s with exchange :=
      { s.exchange with directory := s.exchange.directory.set n ⟨.free, 0⟩ } }
    let dropped : State := { s with exchange := { s.exchange with attn := s.exchange.attn ||| 0b00100 } }
    (exec (.hostMemoryWrite (BitVec.ofNat 15 (0x80 + n.val)) data) s =
      .next (match s.exchange.directory[n].state, (data.extractLsb' 0 8).toNat with
        | .free, 1 => posted
        | .posted, 0 => freed
        | .done, 0 => freed
        | _, _ => dropped)) ∧
    exec (.posting n upper) s = .next (if s.exchange.directory[n].state = .free then posted else dropped) ∧
    (s.exchange.directory[n].state = .posted → exec (.withdrawal n upper) s = .next freed) ∧
    (s.exchange.directory[n].state = .done → exec (.cardReturn n upper) s = .next freed)) ∧
  (∀ (address : BitVec 15) (s : State),
    (s.running → le32 (s.hostRead address) = s.bytesAt (4 * address.toNat) 4) ∧ s.showsHeader ∧
    (∀ n : CardId, s.bytesAt (0x200 + 4 * n.val) 4 =
      [byte s.exchange.directory[n].state.code, s.exchange.directory[n].status, 0, 0]) ∧
    (∀ n : Tag, ((s.record n).written = true → s.showsRecord n) ∧
      ((s.record n).written = false → ∀ i < 128, s.readByte (0x2000 + 128 * n.val + i) = 0)) ∧
    ∀ o, (0x300 ≤ o ∧ o < 0x1000) ∨ (0x3000 ≤ o ∧ o < 0x4000) → s.readByte o = 0) ∧
  ∀ (address : BitVec 15) (data : Word) (n : CardId) (upper : BitVec 24) (s : State), ¬s.running →
    exec (.hostMemoryWrite address data) s = .next s ∧ exec (.posting n upper) s = .next s ∧
      exec (.withdrawal n upper) s = .next s ∧ exec (.cardReturn n upper) s = .next s ∧ s.hostRead address = 0

/-- While the part runs, a host write to ATTN or START_STATUS clears each bit for which it carries a 1 and leaves the
others; a LINE_CTL write with a code other than 1-3, and a write to ID or to an unused register position, set
ATTN.REFUSED; nothing else changes. ID, LINE_CTL, ATTN and START_STATUS read their values, and an unused position 0.
While the part is held in reset or restarts, every register write is ignored and every read returns 0 (R22, R41,
R42, R44, R175). -/
def Obligations.RegisterWritesActOnTheirBits : Prop :=
  (∀ (data : Word) (address : BitVec 15) (s : State), s.running →
    (∃ t, exec (.attnWrite data) s = .next t ∧
      t = { s with exchange := { s.exchange with attn := t.exchange.attn } } ∧
      ∀ i : Fin 5, t.exchange.attn.getLsbD i = (s.exchange.attn.getLsbD i && !data.getLsbD i)) ∧
    (∃ t, exec (.startStatusWrite data) s = .next t ∧
      t = { s with exchange := { s.exchange with startStatus := t.exchange.startStatus } } ∧
      ∀ i : Fin 3, t.exchange.startStatus.getLsbD i = (s.exchange.startStatus.getLsbD i && !data.getLsbD i)) ∧
    ((Instr.lineCtlOtherCode data).wellFormed = true →
      exec (.lineCtlOtherCode data) s =
        .next { s with exchange := { s.exchange with attn := s.exchange.attn ||| 0b00100 } }) ∧
    ((Instr.registerWriteDropped address data).wellFormed = true →
      exec (.registerWriteDropped address data) s =
        .next { s with exchange := { s.exchange with attn := s.exchange.attn ||| 0b00100 } })) ∧
  (∀ s : State, s.running →
    let mode := match s.line.mode with
      | .lost => 0 | .run => 1 | .freeze => 2 | .drain => 3 | .ready => 4 | .faulted => 5
    let cause := match s.line.firstFault with
      | none => 0 | some .transfer => 1 | some .unknownAtEntry => 2 | some .unknownAtExit => 3 | some .exitOverrun => 4
    s.readRegister 0 = 0x00010740 ∧
    (s.readRegister 1).toNat = mode + 256 * cause + 65536 * (if s.cure.ovenStop then 1 else 0) ∧
    (∀ i : Nat, (s.readRegister 2).getLsbD i = (decide (i < 5) && s.exchange.attn.getLsbD i) ∧
      (s.readRegister 4).getLsbD i = (decide (i < 3) && s.exchange.startStatus.getLsbD i)) ∧
    s.readRegister 5 = 0 ∧ s.readRegister 6 = 0 ∧ s.readRegister 7 = 0) ∧
  ∀ (data : Word) (upper : BitVec 24) (address : BitVec 15) (position : BitVec 3) (s : State), ¬s.running →
    exec (.attnWrite data) s = .next s ∧ exec (.attnEnWrite data) s = .next s ∧
      exec (.startStatusWrite data) s = .next s ∧ exec (.lineCtlRun upper) s = .next s ∧
      exec (.lineCtlFreeze upper) s = .next s ∧ exec (.lineCtlDrain upper) s = .next s ∧
      exec (.lineCtlOtherCode data) s = .next s ∧ exec (.registerWriteDropped address data) s = .next s ∧
      s.readRegister position = 0

/-- R43: ATTN_EN holds five bits, read and written freely, bits 5-31 ignored on write and read as 0; every
reset sets it to 0; the interrupt line is asserted while at least one bit is set in both ATTN and ATTN_EN,
and released after every reset. -/
def Obligations.InterruptLineFollowsAttnAndEnable : Prop :=
  (∀ (data : Word) (s : State), s.running → ∃ t, exec (.attnEnWrite data) s = .next t ∧
    t = { s with exchange := { s.exchange with attnEn := t.exchange.attnEn } } ∧
    ∀ i : Fin 5, t.exchange.attnEn.getLsbD i = data.getLsbD i) ∧
  (∀ (s : State) (i : Nat), s.running →
    (s.readRegister 3).getLsbD i = (decide (i < 5) && s.exchange.attnEn.getLsbD i)) ∧
  (∀ s : State, s.interrupt = true ↔
    ∃ i : Fin 5, s.exchange.attn.getLsbD i = true ∧ s.exchange.attnEn.getLsbD i = true) ∧
  ∀ (s t : State) (n : Nat),
    exec (.powerOnReset (.restart n)) s = .next t ∨ exec (.supplyDipReset (.restart n)) s = .next t ∨
        exec (.pinReset (.restart n)) s = .next t →
      t.exchange.attnEn = 0 ∧ t.interrupt = false ∧ t.exchange.attn.getLsbD 4 = true

/-- A LINE_CTL request is judged against the present mode: RUN is taken from READY with an oven table loaded,
FREEZE and DRAIN; FREEZE from RUN; DRAIN from RUN and FREEZE, and it ends in READY at once where the line is
empty. A taken request records the mode, appends LINE_MODE, and then the loader-ready level, the cell and the entry
gate follow: a cell that is INTERLOCKED is PAUSED by FREEZE, one that is PAUSED resumes in RUN and DRAIN with the
guard CLOSED. A DRAIN that ends at once appends a second LINE_MODE, READY from DRAIN. A request that is not taken
sets ATTN.REFUSED and changes nothing else (R4, R101, R102, R168-R170; a PAUSED cell without a board, which no run
reaches, stands: notes/assumptions/10.md). -/
def Obligations.LineCtlRequestsFollowTheModeTable : Prop :=
  (∀ (upper : BitVec 24) (s : State), s.running →
    let dropped : State := { s with exchange := { s.exchange with attn := s.exchange.attn ||| 0b00100 } }
    let taken (t : State) (mode : LineMode) : Prop :=
      t.line = ⟨mode, s.line.firstFault⟩ ∧ t.tables = s.tables ∧ t.cards = s.cards ∧ t.holds = s.holds ∧
        t.verifier = s.verifier ∧ t.coverage = s.coverage ∧ t.lineTime = s.lineTime ∧ t.pending = s.pending
    (((s.line.mode = .ready ∧ s.tables.oven.isSome = true) ∨ s.line.mode = .freeze ∨ s.line.mode = .drain →
        ∃ t u, exec (.lineCtlRun upper) s = .next t ∧ taken t .run ∧
          (s.enterMode .run).cellResumes u ∧ t = u.driveGate) ∧
      ((s.line.mode = .ready ∧ s.tables.oven = none) ∨ s.line.mode = .lost ∨ s.line.mode = .run ∨
          s.line.mode = .faulted → exec (.lineCtlRun upper) s = .next dropped)) ∧
    ((s.line.mode = .run → ∃ t, exec (.lineCtlFreeze upper) s = .next t ∧ taken t .freeze ∧
        t = (if s.sequencer.cell = .interlocked then (s.enterMode .freeze).setCell .paused none
          else s.enterMode .freeze).driveGate) ∧
      (s.line.mode ≠ .run → exec (.lineCtlFreeze upper) s = .next dropped)) ∧
    ((s.line.mode = .run ∨ s.line.mode = .freeze →
        ∃ t u, exec (.lineCtlDrain upper) s = .next t ∧ taken t (if s.lineEmpty then .ready else .drain) ∧
          (s.enterMode .drain).cellResumes u ∧ u.driveGate.endsDrain (s.lineEmpty = true) t) ∧
      (s.line.mode ≠ .run → s.line.mode ≠ .freeze → exec (.lineCtlDrain upper) s = .next dropped))) ∧
  (∀ s : State, s.lineEmpty = true ↔ ∀ n : Tag, (s.record n).valid = true → (s.record n).stage = .held) ∧
  (∀ s : State, s.loaderCondition = true ↔
    s.line.mode = .run ∧ s.tracker.mask = [] ∧ ∃ n, (s.record n).valid = false) ∧
  ∀ s : State, s.driveLoader = { s with
    tracker := { s.tracker with loaderReady := s.loaderCondition }
    ports := { s.ports with
      station := if s.tracker.loaderReady = s.loaderCondition then s.ports.station
        else s.ports.station.issue (.loaderReady s.loaderCondition) } }

/-! ### Cards and the activity list (chapter 2) -/

/-- A scan starts when the Card Processor is idle and scan-pending is set, and clears the flag; its walk visits the
entries in ascending order, some at a command and the next from where it stands at the one after, so that a host
write may come between two visits. Each entry found POSTED at its visit becomes TAKEN, and its card is read as it
then stands in exchange memory and waits behind the cards taken before it; no other entry changes. With cards
waiting, or with no scan pending, a walk that is over does not start again (R29, R30, R32). That a command carries a
number of visits, and that one which starts nothing has no effect, is the model's choice (notes/assumptions/2.md,
29.md). -/
def Obligations.ScanTakesPostedCards : Prop :=
  ∀ (s : State) (visits : Nat), s.running →
    (∀ (first : Nat) (pending : Bool),
      (s.cards = ⟨[], none⟩ ∧ s.exchange.scanPending = true ∧ first = 0 ∧ pending = false) ∨
        (∃ n : CardId, s.cards.visiting = some n ∧ first = n.val ∧ pending = s.exchange.scanPending) →
      let here (n : CardId) : Prop := first ≤ n.val ∧ n.val < first + visits
      ∃ (t : State) (now : List TakenCard), exec (.scan visits) s = .next t ∧
        t.cards.taken = s.cards.taken ++ now ∧
        (∀ n : CardId, t.cards.visiting = some n ↔ n.val = first + visits) ∧
        (∀ n : CardId, t.exchange.directory[n] =
          if here n ∧ s.exchange.directory[n].state = .posted then { s.exchange.directory[n] with state := .taken }
          else s.exchange.directory[n]) ∧
        (now.map (·.index)).Pairwise (· < ·) ∧
        (∀ n : CardId, n ∈ now.map (·.index) ↔ here n ∧ s.exchange.directory[n].state = .posted) ∧
        (∀ c ∈ now, c.kind = s.readByte (cardAt c.index) ∧
          le32 c.hostTag = (List.range 4).map (fun i => s.readByte (cardAt c.index + 4 + i)) ∧
          le16 c.bodyLength.toNat = (List.range 2).map (fun i => s.readByte (cardAt c.index + 8 + i)) ∧
          c.body = (List.range (min 976 c.bodyLength.toNat)).map fun i => s.readByte (cardAt c.index + 16 + i)) ∧
        t = { s with
          exchange := { s.exchange with scanPending := pending, directory := t.exchange.directory }
          cards := t.cards }) ∧
    (s.cards.visiting = none → s.cards.taken ≠ [] ∨ s.exchange.scanPending = false →
      exec (.scan visits) s = .next s)

/-- The activity list: an append to a full list, where the write index plus one equals the read index, sets
ATTN.OVERFLOW alone; any other writes the 16 bytes of the entry at 0x1000 + 16 x write index, advances the
write index by one and sets ATTN.ACTIVITY, and every other byte of exchange memory stands (R37, R39). -/
def Obligations.AppendWritesTheRing : Prop :=
  ∀ (e : Activity) (s : State), s.canonical →
    (s.exchange.writeIndex + 1 = s.readIndex →
      s.append e = { s with exchange := { s.exchange with attn := s.exchange.attn ||| 0b00010 } }) ∧
    (s.exchange.writeIndex + 1 ≠ s.readIndex →
      let base := 0x1000 + 16 * s.exchange.writeIndex.toNat
      (e.bytes s.lineTime).length = 16 ∧
      (List.range 16).map (fun i => (s.append e).readByte (base + i)) = e.bytes s.lineTime ∧
      sameOutside s (s.append e) base 16 ∧
      s.append e = { s with exchange := { s.exchange with
        attn := s.exchange.attn ||| 0b00001
        writeIndex := s.exchange.writeIndex + 1
        mem := (s.append e).exchange.mem } })

/-- A card completes: its result section holds the status code, the six detail words and the host tag copy,
its entry becomes DONE with the status copy, and CARD_DONE is appended; no other entry and no byte outside
the result section and the appended entry changes, the card leaves the Card Processor, and nothing else of the part
changes but what the append of an entry sets (R32, R34, R39). -/
def Obligations.CardCompletionWritesTheResult : Prop :=
  ∀ (c : TakenCard) (rest : List TakenCard) (r : CardResult) (s : State), s.canonical →
    let t := s.completeCard c rest r
    let base := 0x4000 + 1024 * c.index.val + 992
    t.cards.taken = rest ∧
    (∀ n : CardId, t.exchange.directory[n] =
      if n = c.index then ⟨.done, byte r.status.code⟩ else s.exchange.directory[n]) ∧
    (List.range 4).map (fun i => t.readByte (base + i)) = le32 (word r.status.code) ∧
    (∀ k < 6, (List.range 4).map (fun i => t.readByte (base + 4 + 4 * k + i)) = le32 (r.details.getD k 0)) ∧
    (List.range 4).map (fun i => t.readByte (base + 28 + i)) = le32 c.hostTag ∧
    (∀ a, (a < base ∨ base + 32 ≤ a) →
      (a < entryAt s.exchange.writeIndex ∨ entryAt s.exchange.writeIndex + 16 ≤ a) →
        t.exchange.mem.read a = s.exchange.mem.read a) ∧
    (s.exchange.writeIndex + 1 ≠ s.readIndex → t.exchange.writeIndex = s.exchange.writeIndex + 1 ∧
      (List.range 16).map (fun i => t.readByte (entryAt s.exchange.writeIndex + i)) =
        (Activity.cardDone c.index c.kind r.status c.hostTag).bytes s.lineTime) ∧
    (s.exchange.writeIndex + 1 = s.readIndex → t.exchange.writeIndex = s.exchange.writeIndex) ∧
    t = { s with
      cards := { s.cards with taken := rest }
      exchange := { s.exchange with
        attn := s.exchange.attn ||| (if s.exchange.writeIndex + 1 = s.readIndex then 0b00010 else 0b00001)
        writeIndex := t.exchange.writeIndex
        directory := t.exchange.directory
        mem := t.exchange.mem } }

/-- Every card command that finds its card next completes it, and a refused card has no effect other than its
result and its CARD_DONE entry, except a PATH_LOAD refused REFUSED_FULL. A taken card of kind 0 or above 13
completes at once with REFUSED_KIND, detail word 0 holding the kind. No card is processed before the walk that takes
cards is over (R29, R33; that the command then has no effect: notes/assumptions/2.md). -/
def Obligations.CardsAreProcessedInTurn : Prop :=
  (∀ (s : State) (c : TakenCard) (rest : List TakenCard) (cmd : Instr), s.nextCard c rest →
    (cmd, c.kind.toNat) ∈ [(Instr.applicatorLoad, 1), (.coatingLoad, 2), (.recipeLoad, 3), (.pathLoad, 4),
      (.patchSet, 5), (.patchClear, 6), (.ovenLoad, 7), (.admitCard, 8), (.withdrawCard, 9), (.reclaimMap, 11),
      (.declareClear, 12), (.resumeCell, 13)] ∨
      (c.kind.toNat = 10 ∧ (cmd, c.u8 17) ∈ [(Instr.disposeRelease, 1), (.disposeScrap, 2), (.disposeRecoat, 3)]) →
    ∃ (u : State) (r : CardResult), exec cmd s = .next (u.completeCard c rest r) ∧
      (r.status ≠ .ok → u = s ∨ (cmd = .pathLoad ∧ r.status = .refusedFull))) ∧
  (∀ (s : State) (c : TakenCard) (rest : List TakenCard), s.nextCard c rest →
    (c.kind.toNat = 0 ∨ 13 < c.kind.toNat) →
      exec .refusedKind s = .next (s.completeCard c rest ⟨.refusedKind, [c.kind.setWidth 32]⟩)) ∧
  ∀ (s : State) (cmd : Instr), s.running → s.cards.visiting ≠ none ∨ s.cards.taken = [] →
    cmd ∈ [Instr.refusedKind, .applicatorLoad, .coatingLoad, .recipeLoad, .pathLoad, .patchSet, .patchClear,
      .ovenLoad, .admitCard, .withdrawCard, .disposeRelease, .disposeScrap, .disposeRecoat, .reclaimMap,
      .declareClear, .resumeCell] → exec cmd s = .next s

/-! ### The Table Store (chapter 3) -/

/-- APPLICATOR_LOAD: with every field in range and the applicator not engaged, the entry is loaded and an
INTERLOCK mode sets its lock; while the applicator is engaged the card is refused REFUSED_BUSY, and a WARN
mode while the lock is set is refused REFUSED_LOCKED, with no other effect (R48, R49, R50). -/
def Obligations.ApplicatorLoadOutcomes : Prop :=
  ∀ (s : State) (c : TakenCard) (rest : List TakenCard), s.nextCard c rest → c.kind = 1 → c.applicatorFits →
    let a : ApplicatorId := Fin.ofNat 4 (c.u8 16)
    let lock : Bool := s.tables.applicators[a].lock || c.u8 28 == 2
    let entry : ApplicatorEntry :=
      ⟨some ⟨applicatorKindOf (c.u8 17), c.u16 18, c.u16 20, c.u8 22, c.byteAt 23, c.u16 24, c.u16 26,
        if c.u8 28 = 1 then .warn else .interlock⟩, lock⟩
    (s.sequencer.engaged = some a →
      exec .applicatorLoad s = .next (s.completeCard c rest ⟨.refusedBusy, [word a.val]⟩)) ∧
    (s.sequencer.engaged ≠ some a → s.tables.applicators[a].lock = true ∧ c.u8 28 = 1 →
      exec .applicatorLoad s = .next (s.completeCard c rest ⟨.refusedLocked, [word a.val]⟩)) ∧
    (s.sequencer.engaged ≠ some a → s.tables.applicators[a].lock = false ∨ c.u8 28 = 2 →
      exec .applicatorLoad s = .next
        (({ s with tables := { s.tables with applicators := s.tables.applicators.set a entry } }).completeCard c rest
          ⟨.ok, [word a.val, word (duty (c.byteAt 23)), if lock then 1 else 0]⟩))

/-- COATING_LOAD: with every field in range, the entry is loaded, unless it is loaded and a recipe in use
names it: then the card is refused REFUSED_IN_USE with the lowest such recipe (R46, R51, R52). -/
def Obligations.CoatingLoadOutcomes : Prop :=
  ∀ (s : State) (c : TakenCard) (rest : List TakenCard), s.nextCard c rest → c.kind = 2 → c.coatingFits →
    let k : CoatingId := Fin.ofNat 4 (c.u8 16)
    let record : Coating :=
      ⟨c.u8 17, c.u16 18, c.u16 20, c.u16 22, c.u16 24, c.u16 26, c.u16 28,
        Vector.ofFn fun b => ⟨c.u16 (32 + 4 * b.val), c.u8 (34 + 4 * b.val)⟩⟩
    (s.tables.coatings[k].isSome = true → ∀ id, s.lowestUser (fun r => r.coating = k) id →
      exec .coatingLoad s = .next (s.completeCard c rest ⟨.refusedInUse, [word id.val]⟩)) ∧
    (s.tables.coatings[k] = none ∨ s.noUser (fun r => r.coating = k) →
      exec .coatingLoad s = .next
        (({ s with tables := { s.tables with coatings := s.tables.coatings.set k (some record) } }).completeCard c rest
          ⟨.ok, [word k.val, if s.tables.coatings[k].isSome then 1 else 0]⟩))

/-- RECIPE_LOAD: with every field in range, the program COMPLETE, the coating and every applicator the
program names loaded, and the recipe not in use, the entry is loaded, the barred cells of its boards' frames
are zeroed, and the result carries the static conflict report, the mask count and the program's length; a
recipe in use is refused REFUSED_IN_USE. What is zeroed: every cell in a KEEP_OUT or MASKED zone or beyond the grid
of the new recipe, in every RETAINED frame whose owner's valid record carries the id; every other cell stands (R62-R65,
R116). -/
def Obligations.RecipeLoadOutcomes : Prop :=
  (∀ (s : State) (c : TakenCard) (rest : List TakenCard), s.nextCard c rest → c.kind = 3 → c.recipeFits →
    let id : RecipeId := Fin.ofNat 16 (c.u8 16)
    let p : Program := s.tables.programs[(Fin.ofNat 16 (c.u8 19) : ProgramId)]
    let zone (z : Nat) : Zone :=
      ⟨zoneClassOf (c.u8 (36 + 6 * z)), c.u8 (37 + 6 * z), c.u8 (38 + 6 * z), c.u8 (39 + 6 * z), c.u8 (40 + 6 * z)⟩
    let r : Recipe :=
      ⟨c.u8 17, c.u8 18, Fin.ofNat 16 (c.u8 19), Fin.ofNat 4 (c.u8 20), maskPolicyOf (c.u8 21),
        conflictPolicyOf (c.u8 22), c.u8 23, c.u16 24, c.u16 26, c.u16 28, c.u16 30, c.u16 32,
        (List.range (c.u8 34)).map zone⟩
    let hits : List Nat := (List.range p.segments.length).filter fun i =>
      match p.segments[i]? with
      | none => false
      | some g => (r.bandCells g).any fun cell => r.zones.any fun z => z.cls == .keepOut && z.covers cell
    p.state = .complete → s.tables.coatings[(Fin.ofNat 4 (c.u8 20) : CoatingId)].isSome = true →
    (∀ g ∈ p.segments, ∀ a, g.applicator = some a → s.tables.applicators[a].record.isSome = true) →
    (s.recipeInUse id = true →
      exec .recipeLoad s = .next
        (s.completeCard c rest ⟨.refusedInUse, [word (s.admissionsOf id), word (s.recordsOf id)]⟩)) ∧
    (s.recipeInUse id = false →
      exec .recipeLoad s = .next
        ((({ s with tables := { s.tables with recipes := s.tables.recipes.set id (some r) } }).zeroForRecipe
          id r).completeCard c rest
          ⟨.ok, [word hits.length, wordOrNone hits.head?,
            word (r.zones.filter fun z : Zone => z.cls == ZoneClass.masked).length, word p.segments.length]⟩))) ∧
  ∀ (s : State) (id : RecipeId) (r : Recipe), s.canonical →
    let t := s.zeroForRecipe id r
    t = { s with exchange := { s.exchange with mem := t.exchange.mem } } ∧
    (∀ (f : FrameId) (column row : Nat), column < 64 → row < 48 →
      let owned : Prop := s.coverage.frames[f].state = .retained ∧
        ∃ n, s.coverage.frames[f].owner = some n ∧ (s.record n).valid = true ∧ (s.record n).recipe = id
      let barred : Prop := r.columns ≤ column ∨ r.rows ≤ row ∨ ∃ z ∈ r.zones, (z.cls = .keepOut ∨ z.cls = .masked) ∧
        within column z.col0 z.col1 ∧ within row z.row0 z.row1
      (owned → barred → t.exchange.mem.cell f (column, row) = 0) ∧
      (¬owned ∨ ¬barred → t.exchange.mem.cell f (column, row) = s.exchange.mem.cell f (column, row))) ∧
    ∀ o, o < 0x14000 ∨ 0x20000 ≤ o → t.exchange.mem.read o = s.exchange.mem.read o

/-- PATH_LOAD, chunk 0: unless a recipe in use names the program, it is started over with the chunk's
segments, its patches are freed and the recipes that name it are emptied; where the store is short of room the
program is abandoned with REFUSED_FULL (R53, R56, R57, R58). -/
def Obligations.FirstChunkStartsTheProgramOver : Prop :=
  ∀ (s : State) (c : TakenCard) (rest : List TakenCard), s.nextCard c rest → c.kind = 4 → c.pathFits →
    c.u8 17 = 0 →
    let p : ProgramId := Fin.ofNat 16 (c.u8 16)
    let segments := (List.range (c.u8 19)).map fun j => c.segment (32 + 16 * j)
    let others := ((s.tables.programs.set p ⟨.building, [], none⟩).toList.map fun q => q.segments.length).sum
    let emptied := ((List.finRange 16).filter fun i =>
      match s.tables.recipes[i] with | none => false | some r => r.program == p).length
    let cleared (k : Tables) : Prop :=
      (∀ q : ProgramId, q ≠ p → k.programs[q] = s.tables.programs[q]) ∧
      (∀ e : Fin 4, k.patches[e] = match s.tables.patches[e] with
        | none => none
        | some x => if x.program = p then none else some x) ∧
      (∀ i : RecipeId, k.recipes[i] = match s.tables.recipes[i] with
        | none => none
        | some r => if r.program = p then none else some r) ∧
      k.applicators = s.tables.applicators ∧ k.coatings = s.tables.coatings ∧ k.oven = s.tables.oven
    (∀ id, s.lowestUser (fun r => r.program = p) id →
      exec .pathLoad s = .next (s.completeCard c rest ⟨.refusedInUse, [word id.val]⟩)) ∧
    (s.noUser (fun r => r.program = p) → others + c.u8 19 ≤ 4096 →
      ∃ k, cleared k ∧ k.programs[p] = ⟨if c.u8 18 = 1 then .complete else .building, segments, some 0⟩ ∧
        exec .pathLoad s = .next (({ s with tables := k }).completeCard c rest
          ⟨.ok, [word (c.u8 19), word (4096 - (others + c.u8 19)), if c.u8 18 = 1 then 2 else 1, word emptied]⟩)) ∧
    (s.noUser (fun r => r.program = p) → 4096 < others + c.u8 19 →
      ∃ k, cleared k ∧ k.programs[p] = ⟨.empty, [], none⟩ ∧
        exec .pathLoad s = .next (({ s with tables := k }).completeCard c rest
          ⟨.refusedFull, [1, word (4096 - others), word emptied]⟩))

/-- PATH_LOAD, chunk n above 0: it is accepted when the program is BUILDING and n follows its last accepted
chunk, with room for its segments; it is refused REFUSED_SEQUENCE, with no other effect, in every other state
of the program, and REFUSED_FULL, with the program abandoned, where room is short (R57, R58). -/
def Obligations.LaterChunksFollowInOrder : Prop :=
  ∀ (s : State) (c : TakenCard) (rest : List TakenCard), s.nextCard c rest → c.kind = 4 → c.pathFits →
    c.u8 17 ≠ 0 →
    let p : ProgramId := Fin.ofNat 16 (c.u8 16)
    let old := s.tables.programs[p]
    let segments := old.segments ++ (List.range (c.u8 19)).map fun j => c.segment (32 + 16 * j)
    let used := (s.tables.programs.toList.map fun q => q.segments.length).sum
    let next : Prop := old.state = .building ∧ old.lastChunk = some (c.u8 17 - 1)
    let put (q : Program) : State := { s with tables := { s.tables with programs := s.tables.programs.set p q } }
    (¬next → exec .pathLoad s = .next (s.completeCard c rest
      ⟨.refusedSequence, [word old.state.code, match old.lastChunk with | none => 0xFFFFFFFF | some n => word n]⟩)) ∧
    (next → used + c.u8 19 ≤ 4096 → segments.length ≤ 512 →
      exec .pathLoad s = .next
        ((put ⟨if c.u8 18 = 1 then .complete else .building, segments, some (c.u8 17)⟩).completeCard c rest
          ⟨.ok, [word segments.length, word (4096 - (used + c.u8 19)), if c.u8 18 = 1 then 2 else 1, 0]⟩)) ∧
    (next → 4096 < used + c.u8 19 →
      exec .pathLoad s = .next ((put ⟨.empty, [], none⟩).completeCard c rest
        ⟨.refusedFull, [1, word (4096 - (used - old.segments.length)), 0]⟩)) ∧
    (next → used + c.u8 19 ≤ 4096 → 512 < segments.length →
      exec .pathLoad s = .next ((put ⟨.empty, [], none⟩).completeCard c rest
        ⟨.refusedFull, [2, word (4096 - (used - old.segments.length)), 0]⟩))

/-- PATCH_SET: a patch that passes the checks of R59 occupies the lowest free entry; one that the spray cell's
running program bars is refused REFUSED_BUSY, and one that finds every entry occupied REFUSED_FULL, with no
other effect. -/
def Obligations.PatchSetOutcomes : Prop :=
  ∀ (s : State) (c : TakenCard) (rest : List TakenCard), s.nextCard c rest → c.kind = 5 → c.longEnough 32 →
    c.u8 16 ≤ 15 → c.u8 17 ≤ 1 → c.segmentFits 32 →
    let p : ProgramId := Fin.ofNat 16 (c.u8 16)
    s.tables.programs[p].state = .complete → c.u16 18 < s.tables.programs[p].segments.length → c.u16 18 ≤ 511 →
    (∀ a, (c.segment 32).applicator = some a → s.tables.applicators[a].record.isSome = true) →
    (c.u8 17 = 1 → ∀ (e : Fin 4) (x : Patch), s.tables.patches[e] = some x →
      x.enabled = false ∨ x.program ≠ p ∨ x.index ≠ c.u16 18) →
    (s.runningProgram = some p →
      exec .patchSet s = .next (s.completeCard c rest ⟨.refusedBusy, [word p.val]⟩)) ∧
    (s.runningProgram ≠ some p → (∀ e : Fin 4, s.tables.patches[e].isSome = true) →
      exec .patchSet s = .next (s.completeCard c rest ⟨.refusedFull, []⟩)) ∧
    (s.runningProgram ≠ some p → ∀ e : Fin 4, s.tables.patches[e] = none →
      (∀ d < e, s.tables.patches[d].isSome = true) →
      exec .patchSet s = .next
        (({ s with tables := { s.tables with
            patches := s.tables.patches.set e (some ⟨p, c.u16 18, c.segment 32, c.u8 17 == 1⟩) } }).completeCard c rest
          ⟨.ok, [word e.val, word (((List.finRange 4).filter fun d => s.tables.patches[d] == none).length - 1)]⟩))

/-- R60: PATCH_CLEAR frees the entry it names. A short body is refused at offset 8 and an entry number above
3 at offset 16, a free entry REFUSED_UNKNOWN, and an entry of the program that the spray cell runs
REFUSED_BUSY. -/
def Obligations.PatchClearOutcomes : Prop :=
  ∀ (s : State) (c : TakenCard) (rest : List TakenCard), s.nextCard c rest → c.kind = 6 →
    let e : Fin 4 := Fin.ofNat 4 (c.u8 16)
    (¬c.longEnough 1 → exec .patchClear s = .next (s.completeCard c rest ⟨.refusedRange, [8]⟩)) ∧
    (c.longEnough 1 → 3 < c.u8 16 → exec .patchClear s = .next (s.completeCard c rest ⟨.refusedRange, [16]⟩)) ∧
    (c.longEnough 1 → c.u8 16 ≤ 3 → s.tables.patches[e] = none →
      exec .patchClear s = .next (s.completeCard c rest ⟨.refusedUnknown, []⟩)) ∧
    (c.longEnough 1 → c.u8 16 ≤ 3 → ∀ x, s.tables.patches[e] = some x →
      (s.runningProgram = some x.program →
        exec .patchClear s = .next (s.completeCard c rest ⟨.refusedBusy, [word x.program.val]⟩)) ∧
      (s.runningProgram ≠ some x.program →
        exec .patchClear s = .next
          (({ s with tables := { s.tables with patches := s.tables.patches.set e none } }).completeCard c rest
            ⟨.ok, [word x.program.val, word x.index]⟩)))

/-- R61: the segment returned for index i of a program is the replacement record of the enabled patch entry
naming that program and index, if one is occupied, and otherwise the stored segment. -/
def Obligations.FetchReturnsThePatchedSegment : Prop :=
  ∀ (s : State) (p : ProgramId) (i : Nat),
    (∀ (e : Fin 4) (x : Patch), s.tables.patches[e] = some x → x.enabled = true → x.program = p → x.index = i →
      (∀ (d : Fin 4) (y : Patch), s.tables.patches[d] = some y → y.enabled = true → y.program = p → y.index = i →
        d = e) → s.fetched p i = x.segment) ∧
    ((∀ (e : Fin 4) (x : Patch), s.tables.patches[e] = some x →
        x.enabled = false ∨ x.program ≠ p ∨ x.index ≠ i) →
      ∀ g, s.tables.programs[p].segments[i]? = some g → s.fetched p i = g)

/-- OVEN_LOAD: with every field in range the oven table is loaded, and the entry gate is re-examined at once
against the new minimum; while the oven list holds boards the card is refused REFUSED_IN_USE (R67). -/
def Obligations.OvenLoadOutcomes : Prop :=
  ∀ (s : State) (c : TakenCard) (rest : List TakenCard), s.nextCard c rest → c.kind = 7 → c.ovenFits →
    let e (n : Nat) : Nat := ((List.range n).map fun z => c.u16 (16 + 2 * z)).sum
    let table : OvenTable := ⟨Vector.ofFn fun z => c.u16 (16 + 2 * z.val), c.u16 28, c.u16 30⟩
    (s.cure.oven ≠ [] →
      exec .ovenLoad s = .next (s.completeCard c rest ⟨.refusedInUse, [word s.cure.oven.length]⟩)) ∧
    (s.cure.oven = [] →
      exec .ovenLoad s = .next
        ((({ s with tables := { s.tables with oven := some table } }).driveGate).completeCard c rest
          ⟨.ok, [word (e 1), word (e 2), word (e 3), word (e 4), word (e 5), word (e 6)]⟩))

/-! ### Boards in the line (chapters 1 and 4) -/

/-- ADMIT: the refusals of R2 in their order, and an accepted card, which adds an entry with pass 1 and no
reserved frame at the tail of the admission list; its result holds the number of entries and of free tags. -/
def Obligations.AdmitOutcomes : Prop :=
  ∀ (s : State) (c : TakenCard) (rest : List TakenCard), s.nextCard c rest → c.kind = 8 →
    let serial := c.u64 16
    let id : RecipeId := Fin.ofNat 16 (c.u8 24)
    let known : Prop := serial ∈ s.tracker.admissions.map (·.serial) ∨
      ∃ t, (s.record t).valid = true ∧ (s.record t).serial = serial
    let refused (r : CardResult) : Prop := exec .admitCard s = .next (s.completeCard c rest r)
    (s.line.mode = .lost ∨ s.line.mode = .faulted → refused ⟨.refusedState, []⟩) ∧
    (s.line.mode ≠ .lost → s.line.mode ≠ .faulted →
      (¬c.longEnough 9 → refused ⟨.refusedRange, [8]⟩) ∧
      (c.longEnough 9 → 15 < c.u8 24 → refused ⟨.refusedRange, [24]⟩) ∧
      (c.longEnough 9 → c.u8 24 ≤ 15 → s.tables.recipes[id] = none → refused ⟨.refusedUnknown, []⟩) ∧
      (c.longEnough 9 → c.u8 24 ≤ 15 → s.tables.recipes[id] ≠ none →
        (known → refused ⟨.refusedDuplicate, []⟩) ∧
        (¬known → 16 ≤ s.tracker.admissions.length → refused ⟨.refusedFull, []⟩) ∧
        (¬known → s.tracker.admissions.length < 16 →
          exec .admitCard s = .next
            (({ s with tracker := { s.tracker with
                admissions := s.tracker.admissions ++ [Admission.mk serial id 1 none] } }).completeCard c rest
              ⟨.ok, [word (s.tracker.admissions.length + 1),
                word ((List.finRange 32).filter fun t => !(s.record t).valid).length]⟩))))

/-- R3: WITHDRAW removes the entry that carries the card's serial, the entries behind it keep their order, and
a reserved frame of it becomes FREE; no entry is REFUSED_UNKNOWN, a short body REFUSED_RANGE at offset 8. -/
def Obligations.WithdrawOutcomes : Prop :=
  ∀ (s : State) (c : TakenCard) (rest : List TakenCard), s.nextCard c rest → c.kind = 9 →
    let serial := c.u64 16
    (¬c.longEnough 8 → exec .withdrawCard s = .next (s.completeCard c rest ⟨.refusedRange, [8]⟩)) ∧
    (c.longEnough 8 → (∀ a ∈ s.tracker.admissions, a.serial ≠ serial) →
      exec .withdrawCard s = .next (s.completeCard c rest ⟨.refusedUnknown, []⟩)) ∧
    (c.longEnough 8 → ∀ (before after : List Admission) (a : Admission),
      s.tracker.admissions = before ++ a :: after → (∀ b ∈ before, b.serial ≠ serial) → a.serial = serial →
      let left : State := { s with tracker := { s.tracker with admissions := before ++ after } }
      exec .withdrawCard s = .next
        (match a.frame with
          | none => left.completeCard c rest ⟨.ok, [word a.recipe.val, 0xFFFFFFFF]⟩
          | some f => (left.setFrame f ⟨.free, none, none⟩).completeCard c rest
              ⟨.ok, [word a.recipe.val, word f.val]⟩))

/-- An ARRIVAL is refused NOT_READY, NO_READ or UNKNOWN_SERIAL, the first cause that applies, and then only its
ARRIVAL_REFUSED entry is appended. One that is matched removes its admission entry, writes the new record at the
lowest free tag (its absent times free values, notes/assumptions/7.md), puts the tag in the mask-station list, gives
a reserved frame its owner, and reports
BOARD_ADMITTED first; the loader-ready level falls, with LOADER_READY where it stood high; with no MASKED zone the
verification passes at once, otherwise it starts with its deadline and INSPECT goes out with the number of masks, on
the same port behind LOADER_READY (an order that is the model's choice, notes/assumptions/16.md). No other port sends
(R4, R5, R6, R71). -/
def Obligations.ArrivalsAreRefusedOrBecomeBoards : Prop :=
  (∀ (s : State) (serial : Serial), s.idlePort .station →
    let ready : Prop := s.line.mode = .run ∧ s.tracker.mask = [] ∧ ∃ t, (s.record t).valid = false
    (¬ready → exec (.arrival 1 serial) s = .next (s.append (.arrivalRefused .notReady serial)) ∧
      exec (.arrival 2 serial) s = .next (s.append (.arrivalRefused .notReady 0))) ∧
    (ready → exec (.arrival 2 serial) s = .next (s.append (.arrivalRefused .noRead 0)) ∧
      ((∀ a ∈ s.tracker.admissions, a.serial ≠ serial) →
        exec (.arrival 1 serial) s = .next (s.append (.arrivalRefused .unknownSerial serial))))) ∧
  (∀ (s : State) (serial : Serial) (before after : List Admission) (a : Admission) (n : Tag),
    s.idlePort .station → s.line.mode = .run → s.tracker.mask = [] →
    (s.record n).valid = false → (∀ m < n, (s.record m).valid = true) →
    s.tracker.admissions = before ++ a :: after → (∀ b ∈ before, b.serial ≠ serial) → a.serial = serial →
    ∃ t, exec (.arrival 1 serial) s = .next t ∧
      t.tracker.admissions = before ++ after ∧ t.tracker.mask = [⟨n, false⟩] ∧ t.tracker.loaderReady = false ∧
      (∀ m, m ≠ n → t.record m = s.record m) ∧
      t.record n = { BoardRecord.blank with
        written := true, valid := true, stage := .maskCheck, pass := a.pass, serial := serial, recipe := a.recipe
        mapFrame := a.frame, admittedTime := some s.lineTime, seed := s.freeCount } ∧
      (∀ f : FrameId, t.coverage.frames[f] =
        if a.frame = some f then { s.coverage.frames[f] with owner := some n } else s.coverage.frames[f]) ∧
      ((s.recipe a.recipe).maskCount = 0 →
        t.verifier = ⟨.idle, .pass⟩ ∧
        t.exchange = ((s.append (.boardAdmitted n serial a.pass)).append
          (.maskDone n .pass (Vector.replicate 8 .unread))).exchange) ∧
      ((s.recipe a.recipe).maskCount ≠ 0 →
        t.verifier = ⟨.verifying n (s.recipe a.recipe).maskCount
          (s.lineTime + word (s.recipe a.recipe).verifyTimeout), .none⟩ ∧
        t.exchange = (s.append (.boardAdmitted n serial a.pass)).exchange) ∧
      (let level := if s.tracker.loaderReady = true then s.ports.station.issue (.loaderReady false)
        else s.ports.station
       t.ports = { s.ports with
        station := if (s.recipe a.recipe).maskCount = 0 then level
          else level.issue (.inspect (s.recipe a.recipe).maskCount) }) ∧
      t.tables = s.tables ∧ t.sequencer = s.sequencer ∧ t.cure = s.cure ∧ t.holds = s.holds ∧ t.line = s.line)

/-- A MASK_RESULT is ignored while no verification runs or its index is at or above the mask count; otherwise the
record takes the result, and the verification completes when no index below the count stays UNREAD. Its deadline,
once reached, completes it with the results as they stand; not reached, or with no verification, nothing happens
(notes/assumptions/2.md, 3.md). A completed verification is idle, its outcome is REJECT where an index below the
count is not PRESENT under policy REJECT and PASS otherwise, REJECT alone adds MASK_MISSING, and MASK_DONE is
appended with the results (R72-R74). -/
def Obligations.MaskResultsDecideTheOutcome : Prop :=
  (∀ (s : State) (index value : Byte) (v : MaskResult), s.idlePort .station →
    (value = 1 ∧ v = .present) ∨ (value = 2 ∧ v = .absent) →
    (s.verifier.verification = .idle → exec (.maskResult index value) s = .next s) ∧
    (∀ (n : Tag) (count : Nat) (deadline : Time), s.verifier.verification = .verifying n count deadline →
      (count ≤ index.toNat ∨ 8 ≤ index.toNat → exec (.maskResult index value) s = .next s) ∧
      (∀ i : Fin 8, i.val = index.toNat → index.toNat < count → count ≤ 8 →
        let results := (s.record n).maskResults.set i v
        let u := s.modifyRecord n fun b => { b with maskResults := results }
        ((∃ k : Fin 8, k.val < count ∧ results[k] = .unread) →
          exec (.maskResult index value) s = .next u) ∧
        ((∀ k : Fin 8, k.val < count → results[k] ≠ .unread) →
          exec (.maskResult index value) s = .next (u.completeVerification n count))))) ∧
  (∀ (s : State) (n : Tag) (count : Nat) (deadline : Time), s.running →
    (s.verifier.verification = .idle → exec .maskVerifyDeadlineExpiry s = .next s) ∧
    (s.verifier.verification = .verifying n count deadline →
      ((s.lineTime - deadline).toNat < 2 ^ 31 →
        exec .maskVerifyDeadlineExpiry s = .next (s.completeVerification n count)) ∧
      (2 ^ 31 ≤ (s.lineTime - deadline).toNat → exec .maskVerifyDeadlineExpiry s = .next s))) ∧
  (∀ (s : State) (n : Tag) (count : Nat), count ≤ 8 →
    let t := s.completeVerification n count
    let missing : Prop := ∃ k : Fin 8, k.val < count ∧ (s.record n).maskResults[k] ≠ .present
    t.verifier.verification = .idle ∧
    (missing ∧ (s.boardRecipe n).maskPolicy = .reject →
      t.verifier.outcome = .reject ∧ (t.record n).reasons = (s.record n).reasons ||| 1) ∧
    (¬missing ∨ (s.boardRecipe n).maskPolicy = .sprayAround →
      t.verifier.outcome = .pass ∧ t.record n = s.record n) ∧
    (∀ m, m ≠ n → t.record m = s.record m) ∧
    t.exchange = (s.append (.maskDone n t.verifier.outcome (s.record n).maskResults)).exchange ∧
    t.sequencer = s.sequencer ∧ t.cure = s.cure ∧ t.holds = s.holds ∧ t.coverage = s.coverage ∧
    t.ports = s.ports ∧ t.line = s.line ∧ t.tables = s.tables)

/-! ### Transfers (chapters 1, 4, 5 and 9) -/

/-- A route that carries no hold slot starts when it is IDLE, its source list has an unmarked head and its
conditions hold: the head is marked, the deadline set 5000 ms on, TRANSFER sent with slot 0, and for
INFEED_TO_CELL the cell becomes LOADING; no record changes. A transfer into a hold slot starts with the lowest
FREE slot of its kind RESERVED for the board it carries, SLOT_STATE appended, and the slot's number in TRANSFER
(R16, R17, R77, R84, R153, R157). -/
def Obligations.TransfersStartOnTheirConditions : Prop :=
  (∀ (s : State) (r : Route) (p : Place) (l : List Place), s.running → s.tracker.route r = .idle →
    s.tracker.source r = p :: l → p.inTransit = false →
    ((r = .maskToInfeed ∧ s.verifier.outcome = .pass ∧ s.tracker.infeed.length < 2 ∧
        (s.line.mode = .run ∨ s.line.mode = .freeze ∨ s.line.mode = .drain)) ∨
      (r = .infeedToCell ∧ s.sequencer.cell = .idle ∧ s.sequencer.guard = .closed ∧
        (s.line.mode = .run ∨ s.line.mode = .drain)) ∨
      (r = .cellToFlash ∧ s.sequencer.cell = .unloading ∧ s.tracker.flashOff.length < 4 ∧
        (s.line.mode = .run ∨ s.line.mode = .freeze ∨ s.line.mode = .drain)) ∨
      (r = .coolToExit ∧ (s.record p.tag).verdict = .pass)) →
    ∃ t, exec (.transferStart r) s = .next t ∧
      t.tracker.route r = .inFlight (s.lineTime + 5000) 0 ∧
      t.tracker.source r = { p with inTransit := true } :: l ∧
      (∀ q, q ≠ r → t.tracker.route q = s.tracker.route q) ∧ t.tracker.boards = s.tracker.boards ∧
      t.ports.station = s.ports.station.issue (.transfer r 0) ∧
      t.sequencer = (if r = .infeedToCell then { s.sequencer with cell := .loading } else s.sequencer) ∧
      t.holds = s.holds ∧ t.exchange = s.exchange ∧ t.verifier = s.verifier ∧ t.coverage = s.coverage ∧
      t.line = s.line ∧ t.tables = s.tables) ∧
  (∀ (s : State) (r : Route) (p : Place) (l : List Place) (n : SlotId), s.running → s.tracker.route r = .idle →
    s.tracker.source r = p :: l → p.inTransit = false → s.holds.slots[n] = .free →
    ((r = .maskToLane ∧ s.verifier.outcome = .reject ∧ 6 ≤ n.val ∧ (∀ m < n, 6 ≤ m.val → s.holds.slots[m] ≠ .free) ∧
        (s.line.mode = .run ∨ s.line.mode = .freeze ∨ s.line.mode = .drain)) ∨
      (r = .coolToSpur ∧ (s.record p.tag).verdict = .hold ∧ n.val < 6 ∧ ∀ m < n, s.holds.slots[m] ≠ .free)) →
    let operand := if r = .maskToLane then n.val - 6 else n.val
    ∃ t, exec (.transferStart r) s = .next t ∧
      t.tracker.route r = .inFlight (s.lineTime + 5000) operand ∧
      t.tracker.source r = { p with inTransit := true } :: l ∧ t.tracker.boards = s.tracker.boards ∧
      t.holds = { s.holds with slots := s.holds.slots.set n (.reserved p.tag) } ∧
      t.exchange = (s.append (.slotState n (.reserved p.tag) .free (some p.tag))).exchange ∧
      t.ports.station = s.ports.station.issue (.transfer r operand) ∧
      t.sequencer = s.sequencer ∧ t.verifier = s.verifier ∧ t.coverage = s.coverage ∧ t.line = s.line)

/-- MASK_TO_INFEED done: the route is IDLE, the board moves from the mask station to the in-feed tail with stage
WAIT_SPRAY, and the mask outcome returns to NONE. CELL_TO_FLASH done: the board joins the flash-off tail with
stage FLASH_OFF, the cell is IDLE with index 0, the ACTIVE frame becomes RETAINED with its owner and pass,
CELL_STATE is appended with tag 0xFF, and the gate is re-examined (R18, R75, R105, R113, R129; that every frame found
ACTIVE is retained: notes/assumptions/26.md). -/
def Obligations.TransfersIntoAListComplete : Prop :=
  (∀ (s : State) (d : Time) (slot : Nat) (p : Place) (l : List Place), s.idlePort .station →
    s.tracker.maskToInfeed = .inFlight d slot → s.tracker.mask = p :: l →
    ∃ t, exec (.transferDone 1) s = .next t ∧ t.tracker.maskToInfeed = .idle ∧ t.tracker.mask = l ∧
      t.tracker.infeed = s.tracker.infeed ++ [⟨p.tag, false⟩] ∧
      t.tracker.boards = s.tracker.boards.set p.tag { s.record p.tag with stage := .waitSpray } ∧
      t.verifier = { s.verifier with outcome := .none } ∧
      t.exchange = s.exchange ∧ t.sequencer = s.sequencer ∧ t.coverage = s.coverage ∧ t.holds = s.holds ∧
      t.cure = s.cure ∧ t.line = s.line) ∧
  (∀ (s : State) (d : Time) (slot : Nat) (p : Place), s.idlePort .station →
    s.tracker.cellToFlash = .inFlight d slot → s.tracker.cell = [p] →
    ∃ t, exec (.transferDone 4) s = .next t ∧ t.tracker.cellToFlash = .idle ∧ t.tracker.cell = [] ∧
      t.tracker.flashOff = s.tracker.flashOff ++ [⟨p.tag, false⟩] ∧
      t.tracker.boards = s.tracker.boards.set p.tag { s.record p.tag with stage := .flashOff } ∧
      t.sequencer = { s.sequencer with cell := .idle, index := 0 } ∧
      (∀ f : FrameId, t.coverage.frames[f] =
        if s.coverage.frames[f].state = .active then { s.coverage.frames[f] with state := .retained }
        else s.coverage.frames[f]) ∧
      t.exchange = (s.append (.cellState none .idle s.sequencer.cell none)).exchange ∧
      t.cure = { s.cure with gate := t.gateWanted } ∧ t.holds = s.holds ∧ t.verifier = s.verifier ∧
      t.line = s.line ∧ t.tables = s.tables)

/-- MASK_TO_LANE and COOL_TO_SPUR done: the board is HELD with verdict HOLD, the slot's location and the held
time of the completion; the slot is ASSIGNED to it; it joins the hold order; SLOT_STATE and then BOARD_HELD are
appended. At the mask lane a RESERVED frame of the board becomes RETAINED with the board as owner, the mask outcome
returns to NONE and the loader-ready level follows. At the spur the new head of the cool list takes its verdict, PASS
for an empty reason set and HOLD for any other, and the gate is re-examined. No other record, frame or slot changes.
In DRAIN a completion that leaves no other board in a transport stage ends in READY, with LINE_MODE appended (R11,
R18, R75, R78, R79, R154, R158, R170; which boards a joining one passes after a wrap: notes/assumptions/17.md). -/
def Obligations.HoldTransfersComplete : Prop :=
  ∀ (s : State) (r : Route) (code : Byte) (n : SlotId) (d : Time) (slot : Nat) (p : Place) (l : List Place),
    (r = .maskToLane ∧ code = 2 ∧ n.val = 6 + slot) ∨ (r = .coolToSpur ∧ code = 6 ∧ n.val = slot ∧ slot < 6) →
    s.idlePort .station → s.tracker.route r = .inFlight d slot → s.tracker.source r = p :: l →
    (∀ q ∈ l, q.tag ≠ p.tag) →
    ∃ t u : State, exec (.transferDone code) s = .next t ∧
      u.endsDrain (∀ m, m ≠ p.tag → (s.record m).valid = true → (s.record m).stage = .held) t ∧
      u.tracker.route r = .idle ∧ u.tracker.source r = l ∧
      u.record p.tag = { s.record p.tag with
        stage := .held, verdict := .hold, location := .slot n, heldTime := some s.lineTime } ∧
      (∀ m, m ≠ p.tag → u.record m =
        if r = .coolToSpur ∧ l.head?.map (·.tag) = some m then
          { s.record m with verdict := if (s.record m).reasons = 0 then .pass else .hold }
        else s.record m) ∧
      u.holds.slots = s.holds.slots.set n (.assigned p.tag) ∧ p.tag ∈ u.holdOrder ∧
      s.joinsHolds u p.tag s.lineTime ∧
      u.exchange = ((s.append (.slotState n (.assigned p.tag) s.holds.slots[n] (some p.tag))).append
        (.boardHeld p.tag (.slot n) (s.record p.tag).reasons)).exchange ∧
      (∀ f : FrameId, u.coverage.frames[f] =
        if r = .maskToLane ∧ (s.record p.tag).mapFrame = some f ∧ s.coverage.frames[f].state = .reserved then
          { s.coverage.frames[f] with state := .retained, owner := some p.tag }
        else s.coverage.frames[f]) ∧
      u.verifier = (if r = .maskToLane then { s.verifier with outcome := .none } else s.verifier) ∧
      u.tracker.loaderReady = (if r = .maskToLane then u.loaderCondition else s.tracker.loaderReady) ∧
      u.cure = (if r = .coolToSpur then { s.cure with gate := u.gateWanted } else s.cure) ∧
      u.sequencer = s.sequencer ∧ u.line = s.line ∧ u.tables = s.tables

/-- INFEED_TO_CELL done: the board is the cell board with stage SPRAYING, the spray start time of the event and index
0, and it is given a frame as `State.allocate` says (SprayStartAllocatesAFrame: an ACTIVE one, wherever one is named,
FREE or to be reclaimed); then the cell state follows the mode and the guard. In FAULTED the board gains
SPRAY_INCOMPLETE, HALT is sent, and the cell is STOPPED with cause MOTION; in FREEZE, or with the guard OPEN, it is
PAUSED, with no segment fetched; in RUN and DRAIN with the guard CLOSED it is RUNNING, which CELL_STATE reports, and
the first segment is fetched (R18, R85, R86). -/
def Obligations.SprayStartFollowsModeAndGuard : Prop :=
  ∀ (s : State) (d : Time) (slot : Nat) (p : Place) (l : List Place), s.idlePort .station →
    s.tracker.infeedToCell = .inFlight d slot → s.tracker.infeed = p :: l → s.tracker.cell = [] →
    let n := p.tag
    let a : State := ({ s with
      tracker := { s.tracker with
        infeedToCell := .idle
        infeed := l
        cell := [⟨n, false⟩]
        boards := s.tracker.boards.set n { s.record n with stage := .spraying, sprayStart := some s.lineTime } }
      sequencer := { s.sequencer with index := 0, segment := none, phase := .none } } : State).allocate n
    let made (t : State) : Prop := t.tracker.infeedToCell = .idle ∧ t.tracker.infeed = l ∧
      t.tracker.cell = [⟨n, false⟩] ∧ (t.record n).stage = .spraying ∧ (t.record n).sprayStart = some s.lineTime ∧
      (t.record n).serial = (s.record n).serial ∧ (t.record n).mapFrame = (a.record n).mapFrame ∧
      t.coverage = a.coverage ∧ t.sequencer.index = 0 ∧ t.line = s.line ∧ t.holds = s.holds ∧
      t.cure = s.cure ∧ t.verifier = s.verifier ∧ t.tables = s.tables
    ((s.record n).mapFrame ≠ none ∨ (∃ f : FrameId, s.coverage.frames[f].state = .free) →
      ∃ f : FrameId, (a.record n).mapFrame = some f ∧ a.coverage.frames[f].state = .active) ∧
    (s.line.mode = .faulted →
      ∃ t, exec (.transferDone 3) s = .next t ∧ made t ∧
        t = ({ a with
          tracker := { a.tracker with
            boards := a.tracker.boards.set n { a.record n with reasons := (a.record n).reasons ||| 16 } }
          ports := { s.ports with motion := s.ports.motion.issue .halt }
          sequencer := { a.sequencer with stopCause := some .motion } } : State).setCell .stopped (some .motion)) ∧
    (s.line.mode = .freeze ∨ ((s.line.mode = .run ∨ s.line.mode = .drain) ∧ s.sequencer.guard = .opened) →
      ∃ t, exec (.transferDone 3) s = .next t ∧ made t ∧ t = a.setCell .paused none ∧ t.sequencer.cell = .paused ∧
        t.sequencer.phase = .none ∧ (t.record n).lastSegment = (s.record n).lastSegment ∧
        t.ports = s.ports) ∧
    ((s.line.mode = .run ∨ s.line.mode = .drain) ∧ s.sequencer.guard = .closed →
      ∃ t, exec (.transferDone 3) s = .next t ∧ made t ∧ t = (a.setCell .running none).fetch n ∧
        (t.record n).lastSegment = some 0) ∧
    ∀ (u : State) (new : CellState) (cause : Option StopCause), u.setCell new cause =
      ({ u with sequencer := { u.sequencer with cell := new } } : State).append
        (.cellState (if new = .idle then none else u.cellBoard) new u.sequencer.cell cause)

/-- The frame that spray start makes ACTIVE: the record's own, whose cells stand; otherwise the lowest FREE
frame, zeroed and named by the record with the board as owner; where none is FREE, the frame of the first
board in the reclaim order that owns a RETAINED one, whose record then names none and which MAP_RECLAIMED
reports. The reclaim order is the held boards in hold order, then the cool list, the oven list and the flash-off list,
each from its head (R110-R112). -/
def Obligations.SprayStartAllocatesAFrame : Prop :=
  (∀ s : State, s.reclaimOrder = s.holds.kept ++ s.holds.since ++ s.tracker.cool.map (·.tag) ++ s.cure.oven ++
    s.tracker.flashOff.map (·.tag)) ∧
  ∀ (s : State) (n : Tag), s.canonical →
    (∀ f : FrameId, (s.record n).mapFrame = some f →
      s.allocate n = s.setFrame f { s.coverage.frames[f] with state := .active }) ∧
    ((s.record n).mapFrame = none → ∀ f : FrameId, s.coverage.frames[f].state = .free →
      (∀ g < f, s.coverage.frames[g].state ≠ .free) →
      let t := s.allocate n
      t.coverage.frames = s.coverage.frames.set f ⟨.active, some n, some (s.record n).pass⟩ ∧
      t.record n = { s.record n with mapFrame := some f } ∧ (∀ m, m ≠ n → t.record m = s.record m) ∧
      (∀ column row, column < 64 → row < 48 → t.exchange.mem.cell f (column, row) = 0) ∧
      (∀ g : FrameId, g ≠ f → ∀ column row, column < 64 → row < 48 →
        t.exchange.mem.cell g (column, row) = s.exchange.mem.cell g (column, row)) ∧
      t.exchange.writeIndex = s.exchange.writeIndex) ∧
    ((s.record n).mapFrame = none → (∀ g : FrameId, s.coverage.frames[g].state ≠ .free) →
      ∀ (before after : List Tag) (o : Tag) (f : FrameId), s.reclaimOrder = before ++ o :: after →
      (∀ b ∈ before, ∀ g : FrameId, (s.record b).mapFrame = some g → s.coverage.frames[g].state ≠ .retained) →
      (s.record o).mapFrame = some f → s.coverage.frames[f].state = .retained →
      let t := s.allocate n
      t.coverage.frames = s.coverage.frames.set f ⟨.active, some n, some (s.record n).pass⟩ ∧
      (t.record n).mapFrame = some f ∧ (o ≠ n → (t.record o).mapFrame = none) ∧
      (∀ column row, column < 64 → row < 48 → t.exchange.mem.cell f (column, row) = 0) ∧
      (s.exchange.writeIndex + 1 ≠ s.readIndex → t.exchange.writeIndex = s.exchange.writeIndex + 1 ∧
        (List.range 16).map (fun i => t.readByte (entryAt s.exchange.writeIndex + i)) =
          (Activity.mapReclaimed f o .sprayStart).bytes s.lineTime))

/-- COOL_TO_EXIT done: the board leaves the cool list, a RETAINED frame that it owns becomes FREE, its record is
freed with its other bytes kept, and BOARD_PASSED is appended; the divert decision is taken for the new head:
PASS for an empty reason set and HOLD for any other; the gate and the loader-ready level follow. In DRAIN a completion
that leaves no board in a transport stage ends in READY, with LINE_MODE appended (R8, R11, R151, R152, R170). -/
def Obligations.CoolToExitCompletes : Prop :=
  ∀ (s : State) (d : Time) (slot : Nat) (p : Place) (l : List Place), s.idlePort .station →
    s.tracker.coolToExit = .inFlight d slot → s.tracker.cool = p :: l → (∀ q ∈ l, q.tag ≠ p.tag) →
    ∃ t u : State, exec (.transferDone 5) s = .next t ∧
      u.endsDrain (∀ m, m ≠ p.tag → (s.record m).valid = true → (s.record m).stage = .held) t ∧
      u.tracker.coolToExit = .idle ∧ u.tracker.cool = l ∧
      u.record p.tag = { s.record p.tag with valid := false } ∧
      (∀ q m, l = q :: m → u.record q.tag =
        { s.record q.tag with verdict := if (s.record q.tag).reasons = 0 then .pass else .hold }) ∧
      (∀ m, m ≠ p.tag → (∀ q k, l = q :: k → m ≠ q.tag) → u.record m = s.record m) ∧
      (∀ f : FrameId, u.coverage.frames[f] =
        if (s.record p.tag).mapFrame = some f ∧ s.coverage.frames[f].state = .retained ∧
            s.coverage.frames[f].owner = some p.tag
        then ⟨.free, none, none⟩ else s.coverage.frames[f]) ∧
      u.exchange = (s.append (.boardPassed p.tag (s.record p.tag).serial)).exchange ∧
      u.cure = { s.cure with gate := u.gateWanted } ∧ u.tracker.loaderReady = u.loaderCondition ∧
      u.sequencer = s.sequencer ∧ u.holds = s.holds ∧ u.line = s.line

/-- A transfer in flight ends in a fault when TRANSFER_FAULT arrives, cause 1, or its deadline has been reached,
cause 2: the route is FAULTED, the lists and records stand, and fault TRANSFER is raised with the route and the
carried board; a deadline not yet reached does nothing (notes/assumptions/3.md). A TRANSFER_DONE or
TRANSFER_FAULT whose route is IDLE or FAULTED, or whose code is outside 1-6, is ignored (R19, R20). -/
def Obligations.TransferAnswersEndOrAreIgnored : Prop :=
  (∀ (s : State) (r : Route) (d : Time) (slot : Nat) (p : Place) (l : List Place),
    s.tracker.route r = .inFlight d slot → s.tracker.source r = p :: l →
    let u : State := { s with tracker := s.tracker.setRoute r .faulted }
    (s.idlePort .station →
      exec (.transferFault (byte (routeCode r))) s = .next (u.raiseFault .transfer (some r) (some p.tag) 1)) ∧
    (s.running → (s.lineTime - d).toNat < 2 ^ 31 →
      exec (.transferDeadlineExpiry r) s = .next (u.raiseFault .transfer (some r) (some p.tag) 2)) ∧
    (s.running → 2 ^ 31 ≤ (s.lineTime - d).toNat → exec (.transferDeadlineExpiry r) s = .next s)) ∧
  (∀ (s : State) (code : Byte), s.idlePort .station →
    (code.toNat = 0 ∨ 6 < code.toNat ∨
      ∃ r, routeCode r = code.toNat ∧ (s.tracker.route r = .idle ∨ s.tracker.route r = .faulted)) →
    exec (.transferDone code) s = .next s ∧ exec (.transferFault code) s = .next s)

/-! ### The spray cell (chapter 5) -/

/-- SEG_STARTED for the segment in phase SENT moves it to STARTED. A MOVE or a dry run does nothing else. For a
wet segment whose applicator is in WARN mode or in band, the valve opens: VALVE OPEN is sent, the start time and
the pre-start sample are noted, and the sample sum and count are zeroed; otherwise the segment is aborted with
cause PRESSURE. A SEG_STARTED that names no segment in phase SENT is ignored (R90, R92). -/
def Obligations.SegStartedOpensTheValve : Prop :=
  ∀ (s : State) (tag : Byte) (index : Half), s.idlePort .motion →
    let named (n : Tag) (h : HeldSegment) : Prop := s.cellBoard = some n ∧ s.sequencer.segment = some h ∧
      s.sequencer.phase = .sent ∧ tag.toNat = n.val ∧ index.toNat = s.sequencer.index
    let started : State := { s with sequencer := { s.sequencer with phase := .started } }
    (∀ (n : Tag) (h : HeldSegment), named n h →
      (h.wet = none → exec (.segStarted tag index) s = .next started) ∧
      ∀ a : ApplicatorId, h.wet = some a →
        let m := s.sequencer.monitors[a]
        ((s.applicator a).mode = .warn ∨ m.state = .inBand →
          exec (.segStarted tag index) s = .next { s with
            sequencer := { s.sequencer with
              phase := .started
              valve := some a
              valveStart := some s.lineTime
              preStart := m.lastSample
              monitors := s.sequencer.monitors.set a { m with sum := 0, count := 0 } }
            ports := { s.ports with fluid := s.ports.fluid.issue (.valveOpen a (s.applicator a).slotMask) } }) ∧
        ((s.applicator a).mode = .interlock → m.state ≠ .inBand →
          exec (.segStarted tag index) s = .next (started.abort .pressure (some a)))) ∧
    ((¬∃ n h, named n h) → exec (.segStarted tag index) s = .next s)

/-- SEG_DONE for the segment in phase STARTED: a wet segment's valve is closed and its deposit made, with the
valve time clamped to 1-65535 ms, the samples and the pre-start sample; the segment ends and the index advances;
then the path ends at the program's length, or the cell pauses in FREEZE, or the next segment is fetched. A
SEG_DONE that names no segment in phase STARTED is ignored (R91, R92; that the valve start time is absent once
the valve is closed: notes/assumptions/22.md). -/
def Obligations.SegDoneCompletesTheSegment : Prop :=
  ∀ (s : State) (tag : Byte) (index : Half), s.idlePort .motion →
    let named (n : Tag) (h : HeldSegment) : Prop := s.cellBoard = some n ∧ s.sequencer.segment = some h ∧
      s.sequencer.phase = .started ∧ tag.toNat = n.val ∧ index.toNat = s.sequencer.index
    (∀ (n : Tag) (h : HeldSegment) (start : Time), named n h →
      (∀ a, h.wet = some a → s.sequencer.valveStart = some start) →
      let closed (a : ApplicatorId) : State := { s with
        sequencer := { s.sequencer with valve := none, valveStart := none }
        ports := { s.ports with fluid := s.ports.fluid.issue (.valveClose a) } }
      let wet : State := match h.wet with
        | none => s
        | some a => (closed a).deposit n h.record a (max 1 (min 65535 (s.lineTime - start).toNat))
            s.sequencer.monitors[a].sum.toNat s.sequencer.monitors[a].count.toNat (s.sequencer.preStart.getD 0)
      let done : State := { wet with sequencer := { wet.sequencer with
        deadline := none, segment := none, phase := .none, index := s.sequencer.index + 1 } }
      let last : Prop := s.sequencer.index + 1 = s.tables.programs[(s.boardRecipe n).program].segments.length
      (last → exec (.segDone tag index) s = .next (done.pathEnd n .complete)) ∧
      (¬last → s.line.mode = .freeze → exec (.segDone tag index) s = .next (done.setCell .paused none)) ∧
      (¬last → s.line.mode ≠ .freeze → exec (.segDone tag index) s = .next (done.fetch n))) ∧
    ((¬∃ n h, named n h) → exec (.segDone tag index) s = .next s)

/-- An abort closes the open valve, sends HALT, discards the held segment with its sum and count, adds
SPRAY_INCOMPLETE to the board and leaves the cell STOPPED with its cause, reported by CELL_STATE. A motion fault
with a segment in flight, a segment deadline reached in flight, and an opening guard in RUNNING or INTERLOCKED
abort; in every other cell state an opening guard is only recorded, and so is a closing one, but for PAUSED with
mode RUN or DRAIN: there the cell runs, with the next segment fetched where none is held and the held one sent
where its applicator is in WARN mode or in band, and is INTERLOCKED otherwise. A report that repeats the guard
state, or has an undefined code, changes nothing (R96-R98, R102, R183, notes/assumptions/2.md, 3.md). R97 says that
the sum and count are discarded; that they then stand at 0 is the model's choice (DEDUCED, notes/assumptions/22.md). -/
def Obligations.AbortsAndTheGuardActOnTheCell : Prop :=
  ((∀ (s : State) (cause : StopCause) (a : Option ApplicatorId) (n : Tag), s.cellBoard = some n →
    let t := s.abort cause a
    t.sequencer = { s.sequencer with
      cell := .stopped, stopCause := some cause, stopApplicator := a, segment := none, phase := .none
      deadline := none, valve := none, valveStart := t.sequencer.valveStart, monitors := t.sequencer.monitors } ∧
    (∀ b, (s.sequencer.wetSegment = some b →
        t.sequencer.monitors[b] = { s.sequencer.monitors[b] with sum := 0, count := 0 }) ∧
      (s.sequencer.wetSegment ≠ some b → t.sequencer.monitors[b] = s.sequencer.monitors[b])) ∧
    t.record n = { s.record n with reasons := (s.record n).reasons ||| 16 } ∧
    (∀ m, m ≠ n → t.record m = s.record m) ∧
    t.ports = { s.ports with
      motion := s.ports.motion.issue .halt
      fluid := match s.sequencer.valve with
        | none => s.ports.fluid
        | some v => s.ports.fluid.issue (.valveClose v) } ∧
    t.exchange = (s.append (.cellState (some n) .stopped s.sequencer.cell (some cause))).exchange ∧
    t.coverage = s.coverage ∧ t.line = s.line ∧ t.tables = s.tables ∧ t.cure = s.cure ∧ t.holds = s.holds) ∧
  (∀ (s : State) (diagnostic : List Byte), s.idlePort .motion → diagnostic.length ≤ 32 →
    exec (.motionFault diagnostic) s =
      .next (if s.sequencer.phase = .sent ∨ s.sequencer.phase = .started then s.abort .motion none else s)) ∧
  (∀ (s : State) (d : Time), s.running → s.sequencer.deadline = some d →
    exec .segmentDeadlineExpiry s =
      .next (if (s.sequencer.phase = .sent ∨ s.sequencer.phase = .started) ∧ (s.lineTime - d).toNat < 2 ^ 31 then
        s.abort .motion none else s)) ∧
  ∀ s : State, s.idlePort .station → s.sequencer.guard = .closed →
    let opened : State := { s with sequencer := { s.sequencer with guard := .opened } }
    exec (.guard 1) s = .next (if s.sequencer.cell = .running ∨ s.sequencer.cell = .interlocked then
      opened.abort .guard none else opened)) ∧
  (∀ s : State, s.idlePort .station →
    (s.sequencer.guard = .opened → exec (.guard 1) s = .next s) ∧
    (s.sequencer.guard = .closed → exec (.guard 2) s = .next s) ∧
    (∀ code : Byte, code ≠ 1 → code ≠ 2 → exec (.guard code) s = .next s) ∧
    (s.sequencer.guard = .opened →
      let closed : State := { s with sequencer := { s.sequencer with guard := .closed } }
      let leaves : Prop := s.sequencer.cell = .paused ∧ (s.line.mode = .run ∨ s.line.mode = .drain)
      (¬leaves → exec (.guard 2) s = .next closed) ∧
      (leaves → ∀ n : Tag, s.cellBoard = some n →
        (s.sequencer.segment = none → exec (.guard 2) s = .next ((closed.setCell .running none).fetch n)) ∧
        ∀ a : ApplicatorId, s.sequencer.wetSegment = some a →
          ((s.applicator a).mode = .warn ∨ s.sequencer.monitors[a].state = .inBand →
            exec (.guard 2) s = .next ((closed.setCell .running none).sendSegment n)) ∧
          ((s.applicator a).mode = .interlock → s.sequencer.monitors[a].state ≠ .inBand →
            exec (.guard 2) s = .next (closed.setCell .interlocked none)))))

/-- A segment fetched: the record's last segment index is its index; a MOVE, and a wet segment with no KEEP_OUT
cell on its on-grid band and its applicator ready, is sent at once with the deadline of twice the planned time
and 500 ms; a wet segment whose INTERLOCK applicator is not in band waits INTERLOCKED; one whose band holds a
KEEP_OUT cell gives SEGMENT_CONFLICT for the first such cell, and is sent as a dry run under DRY_RUN or ends the
path under STOP_BOARD (R86-R89). -/
def Obligations.FetchedSegmentsAreJudged : Prop :=
  ∀ (s : State) (n : Tag),
    let r := s.boardRecipe n
    let i := s.sequencer.index
    let g := s.fetched r.program i
    let held (dry : Bool) (b : BoardRecord) : State := { s with
      tracker := { s.tracker with boards := s.tracker.boards.set n { b with lastSegment := some i } }
      sequencer := { s.sequencer with segment := some ⟨g, dry⟩ } }
    let sent (u : State) (dry : Bool) (head : ApplicatorKind) : State := { u with
      sequencer := { u.sequencer with phase := .sent, deadline := some (s.lineTime + word (2 * g.planned + 500)) }
      ports := { s.ports with motion := s.ports.motion.issue (.segRun n i g dry head) } }
    (g.applicator = none → s.fetch n = sent (held false (s.record n)) false .needle) ∧
    ∀ a : ApplicatorId, g.applicator = some a →
      let hit (cell : Nat × Nat) : Bool := r.effectiveClass (s.record n).maskResults cell == .keepOut
      ((∀ cell ∈ r.bandCells g, hit cell = false) →
        ((s.applicator a).mode = .warn ∨ s.sequencer.monitors[a].state = .inBand →
          s.fetch n = sent (held false (s.record n)) false (s.applicator a).kind) ∧
        ((s.applicator a).mode = .interlock → s.sequencer.monitors[a].state ≠ .inBand →
          let u := held false (s.record n)
          s.fetch n =
            ({ u with sequencer := { u.sequencer with phase := .waiting } } : State).setCell .interlocked none)) ∧
      ∀ (before after : List (Nat × Nat)) (cell : Nat × Nat), r.bandCells g = before ++ cell :: after →
        (∀ b ∈ before, hit b = false) → hit cell = true →
        let marked : BoardRecord := { s.record n with
          reasons := (s.record n).reasons ||| 2
          conflicts := (s.record n).conflicts + 1
          firstConflict := (s.record n).firstConflict.or (some i) }
        (r.conflictPolicy = .dryRun →
          s.fetch n = sent ((held true marked).append (.segmentConflict n i .dryRun cell.1 cell.2)) true
            (s.applicator a).kind) ∧
        (r.conflictPolicy = .stopBoard →
          let u := (held false marked).append (.segmentConflict n i .stopBoard cell.1 cell.2)
          s.fetch n =
            ({ u with sequencer := { u.sequencer with segment := none } } : State).pathEnd n .stopBoard)

/-- The path of a board ends: spray end time, evaluation, the flash-off items from its coating's times, PATH_DONE
with the segments fetched and the counts, and the cell UNLOADING with no stop cause (R104, R126). -/
def Obligations.PathEndsLeaveTheCellUnloading : Prop :=
  ∀ (s : State) (n : Tag) (ended : PathEnd),
    let e := s.evaluation n
    let c := s.boardCoating n
    let t := s.pathEnd n ended
    t.sequencer = { s.sequencer with cell := .unloading, stopCause := none, stopApplicator := none } ∧
    t.record n = { s.record n with
      sprayEnd := some s.lineTime, thinCells := e.thin, thickCells := e.thick, firstFailing := e.first
      reasons := (s.record n).reasons ||| (if 0 < e.thin then 4 else 0) ||| (if 0 < e.thick then 8 else 0) } ∧
    (∀ m, m ≠ n → t.record m = s.record m ∧ t.tracker.flash[m] = s.tracker.flash[m]) ∧
    t.tracker.flash[n] = some
      ⟨if c.flashMin = 0 then none else some (s.lineTime + word (1000 * c.flashMin)), c.flashMin == 0,
        some (s.lineTime + word (1000 * c.openMax))⟩ ∧
    t.exchange = ((s.append (.pathDone n (match (s.record n).lastSegment with | none => 0 | some i => i + 1) ended
      e.thin e.thick)).append (.cellState s.cellBoard .unloading s.sequencer.cell none)).exchange ∧
    t.ports = s.ports ∧ t.coverage = s.coverage ∧ t.line = s.line ∧ t.tables = s.tables ∧ t.cure = s.cure ∧
    t.holds = s.holds

/-- R103: RESUME_CELL is refused in the order of its five checks, and otherwise ends the path of the stopped
board with end RESUME_CELL and the result OK with the segments fetched and the two counts. -/
def Obligations.ResumeCellEndsThePath : Prop :=
  ∀ (s : State) (c : TakenCard) (rest : List TakenCard), s.nextCard c rest → c.kind = 13 →
    let refused (r : CardResult) : Prop := exec .resumeCell s = .next (s.completeCard c rest r)
    (¬c.longEnough 1 → refused ⟨.refusedRange, [8]⟩) ∧
    (c.longEnough 1 → 31 < c.u8 16 → refused ⟨.refusedRange, [16]⟩) ∧
    ∀ n : Tag, c.longEnough 1 → c.u8 16 = n.val →
      let q := s.sequencer
      let outOfBand (a : ApplicatorId) : Prop :=
        q.stopCause = some .pressure ∧ q.stopApplicator = some a ∧ q.monitors[a].state ≠ .inBand
      (q.cell ≠ .stopped → refused ⟨.refusedState, [1]⟩) ∧
      (q.cell = .stopped →
        (s.cellBoard ≠ some n → refused ⟨.refusedState, [2]⟩) ∧
        (s.cellBoard = some n →
          (q.guard = .opened → refused ⟨.refusedState, [3]⟩) ∧
          (q.guard = .closed →
            (∀ a, outOfBand a → refused ⟨.refusedState, [4, word a.val]⟩) ∧
            ((∀ a, ¬outOfBand a) →
              exec .resumeCell s = .next ((s.pathEnd n .resumeCell).completeCard c rest
                ⟨.ok, [match (s.record n).lastSegment with | none => 0 | some i => word (i + 1),
                  word (s.evaluation n).thin, word (s.evaluation n).thick]⟩)))))

/-- A PRESSURE for an applicator above 3 is ignored. Any other stores the sample, at most 1023, moves the
silence deadline 1000 ms on and, while that applicator's valve is open, counts in the sum of 48 bits and the count of
32 (what they hold beyond that is open, notes/assumptions/21.md); with a loaded entry
the monitor's state is judged, and a change appends PRESSURE: into band, it sends the segment that waits on the
applicator; out of band, it aborts the segment of an INTERLOCK applicator whose valve is open (R93, R95, R118,
R183). -/
def Obligations.PressureSamplesAreJudged : Prop :=
  ∀ (s : State) (applicator : Byte) (kPa : Half), s.idlePort .fluid →
    (3 < applicator.toNat → exec (.pressure applicator kPa) s = .next s) ∧
    ∀ a : ApplicatorId, a.val = applicator.toNat →
      let p := min 1023 kPa.toNat
      let q := s.sequencer
      let old := q.monitors[a]
      let sampled (state : PressureState) : Monitor :=
        ⟨state, some p, some (s.lineTime + 1000),
          if q.valve ≠ some a then old.sum
          else if old.sum.toNat + p < 2 ^ 48 then BitVec.ofNat 48 (old.sum.toNat + p) else Config.overfullSum old.sum p,
          if q.valve ≠ some a then old.count
          else if old.count.toNat + 1 < 2 ^ 32 then BitVec.ofNat 32 (old.count.toNat + 1) else Config.overfullCount⟩
      let stored (state : PressureState) : State :=
        { s with sequencer := { q with monitors := q.monitors.set a (sampled state) } }
      (s.tables.applicators[a].record = none → exec (.pressure applicator kPa) s = .next (stored old.state)) ∧
      ∀ r : Applicator, s.tables.applicators[a].record = some r →
        let new : PressureState :=
          if old.state = .inBand then (if p < r.bandLow then .low else if r.bandHigh < p then .high else .inBand)
          else if r.bandLow + 5 ≤ p ∧ p + 5 ≤ r.bandHigh then .inBand
          else if p < r.bandLow + 5 then .low else .high
        (new = old.state → exec (.pressure applicator kPa) s = .next (stored old.state)) ∧
        (new ≠ old.state →
          let u := (stored new).append (.pressure a new old.state p)
          let resumes : Prop := new = .inBand ∧ q.cell = .interlocked ∧ q.wetSegment = some a
          let trips : Prop := old.state = .inBand ∧ q.valve = some a ∧ r.mode = .interlock
          (∀ n : Tag, s.cellBoard = some n → resumes →
            exec (.pressure applicator kPa) s = .next ((u.setCell .running none).sendSegment n)) ∧
          (trips → exec (.pressure applicator kPa) s = .next (u.abort .pressure (some a))) ∧
          (¬resumes → ¬trips → exec (.pressure applicator kPa) s = .next u))

/-- An applicator's silence deadline that has been reached leaves its monitor UNKNOWN with the last sample kept;
a change appends PRESSURE, and one out of IN_BAND aborts the segment of an INTERLOCK applicator whose valve is
open (R94). A deadline not running or not reached does nothing (notes/assumptions/2.md, 3.md). -/
def Obligations.SilentMonitorsBecomeUnknown : Prop :=
  ∀ (s : State) (a : ApplicatorId), s.running →
    let q := s.sequencer
    let old := q.monitors[a]
    let quiet : State := { s with
      sequencer := { q with monitors := q.monitors.set a { old with state := .unknown, silence := none } } }
    let sample := match old.lastSample with | none => 0 | some p => p
    (old.silence = none → exec (.pressureSilenceDeadlineExpiry a) s = .next s) ∧
    ∀ d : Time, old.silence = some d →
      (2 ^ 31 ≤ (s.lineTime - d).toNat → exec (.pressureSilenceDeadlineExpiry a) s = .next s) ∧
      ((s.lineTime - d).toNat < 2 ^ 31 →
        (old.state = .unknown → exec (.pressureSilenceDeadlineExpiry a) s = .next quiet) ∧
        (old.state ≠ .unknown →
          let u := quiet.append (.pressure a .unknown old.state sample)
          let trips : Prop := old.state = .inBand ∧ q.valve = some a ∧ (s.applicator a).mode = .interlock
          (trips → exec (.pressureSilenceDeadlineExpiry a) s = .next (u.abort .pressure (some a))) ∧
          (¬trips → exec (.pressureSilenceDeadlineExpiry a) s = .next u)))

/-! ### Deposit and evaluation (chapter 6) -/

/-- R119: the thickness increment is num / den rounded half up once and clamped to 4095, with num = F t k p_eff TE
T and den = 32000 Pn N exact; in the ranges of R117 num stays below 5 x 10^16 and den below 1.7 x 10^10; den is
even; d is 0 exactly when num < den / 2, 1 when num = den / 2, and 4095 when num is at least 4094.5 den. -/
def Obligations.IncrementRoundsHalfUpOnce : Prop :=
  ∀ F t k p TE T Pn N : Nat, within F 1 4095 → within t 1 65535 → within k 1 8 → p ≤ 1023 → within TE 1 100 →
    within T 50 150 → within Pn 50 1023 → within N 1 512 →
    let num := F * t * k * p * TE * T
    let den := 32000 * Pn * N
    let d := increment F t k p TE T Pn N
    d = min 4095 ((num + den / 2) / den) ∧ num < 5 * 10 ^ 16 ∧ den ≤ 32000 * 1023 * 512 ∧ den < 17 * 10 ^ 9 ∧
      den % 2 = 0 ∧ (num % den < den / 2 → num / den ≤ 4095 → d = num / den) ∧
      (den / 2 ≤ num % den → num / den < 4095 → d = num / den + 1) ∧
      (d = 0 ↔ num < den / 2) ∧ (p = 0 → d = 0) ∧ (num = den / 2 → d = 1) ∧ (8189 * den ≤ 2 * num → d = 4095)

/-- A deposit raises, on the board's frame, each on-grid cell of the segment's band by the increment, saturating
at 4095, leaves MASKED and KEEP_OUT cells, and changes no other byte of memory and nothing else. The effective
pressure is the mean of the samples rounded down, or the pre-start sample where there is none, at most
floor(3 Pn / 2) (R55, R118, R120). -/
def Obligations.DepositsReachTheBand : Prop :=
  ∀ (s : State) (n : Tag) (f : FrameId) (g : Segment) (b : Band) (a : ApplicatorId) (time sum count pre : Nat),
    s.canonical → (s.record n).mapFrame = some f → g.band = some b →
    (s.boardRecipe n).columns ≤ 64 → (s.boardRecipe n).rows ≤ 48 →
    let r := s.boardRecipe n
    let x := s.applicator a
    let pressure := min (if count = 0 then pre else sum / count) (3 * x.nominal / 2)
    let d := increment x.flow time (duty x.slotMask) pressure x.efficiency g.trim x.nominal g.nominalSize
    let t := s.deposit n g a time sum count pre
    t = { s with exchange := { s.exchange with mem := t.exchange.mem } } ∧
    (∀ column row : Nat, column < 64 → row < 48 →
      let old := s.exchange.mem.cell f (column, row)
      let here : Prop := column < r.columns ∧ row < r.rows ∧ b.col0 ≤ column ∧ (column : Int) ≤ b.col1 ∧
        b.row0 ≤ row ∧ (row : Int) ≤ b.row1
      let cls := r.effectiveClass (s.record n).maskResults (column, row)
      (here → cls ≠ .masked → cls ≠ .keepOut → t.exchange.mem.cell f (column, row) = min 4095 (old + d)) ∧
      (¬here ∨ cls = .masked ∨ cls = .keepOut → t.exchange.mem.cell f (column, row) = old)) ∧
    ∀ o, o < 0x14000 + 6144 * f.val ∨ 0x14000 + 6144 * f.val + 6144 ≤ o →
      t.exchange.mem.read o = s.exchange.mem.read o

/-- The evaluation visits every cell of the grid in row-major order and judges the THIN and COAT ones: thick at
wet 4095 or above the window's maximum, thin below its minimum. Its counts are those of the thin and of the thick
cells, and its first failing cell the first of either (R122, R123). -/
def Obligations.EvaluationCountsTheFailingCells : Prop :=
  ∀ (s : State) (n : Tag) (f : FrameId), (s.record n).mapFrame = some f →
    let r := s.boardRecipe n
    let cells := (List.range r.rows).flatMap fun row => (List.range r.columns).map fun column => (column, row)
    let cls (cell : Nat × Nat) := r.effectiveClass (s.record n).maskResults cell
    let wet (cell : Nat × Nat) := s.exchange.mem.cell f cell
    let dry (cell : Nat × Nat) := wet cell * (s.boardCoating n).solids / 100
    let lo (cell : Nat × Nat) := if cls cell = .thin then r.thinMin else r.coatMin
    let hi (cell : Nat × Nat) := if cls cell = .thin then r.thinMax else r.coatMax
    let judged (cell : Nat × Nat) : Bool := cls cell == .thin || cls cell == .coat
    let thin (cell : Nat × Nat) : Bool := judged cell && wet cell != 4095 && decide (dry cell < lo cell)
    let thick (cell : Nat × Nat) : Bool :=
      judged cell && (wet cell == 4095 || (decide (lo cell ≤ dry cell) && decide (hi cell < dry cell)))
    (s.evaluation n).thin = (cells.filter thin).length ∧ (s.evaluation n).thick = (cells.filter thick).length ∧
      (s.evaluation n).first = cells.find? fun cell => thin cell || thick cell

/-! ### Flash-off, oven and exit (chapters 7 and 8) -/

/-- The entry gate re-examined is OPEN exactly when the flash-off head is done, the oven list holds fewer than
12 boards, an oven table is loaded with its spacing travelled, the cool list holds fewer than 3, the mode is RUN,
FREEZE or DRAIN and oven stop is released; ENTRY_GATE is sent when the state changes, and nothing else changes
(R131). -/
def Obligations.EntryGateFollowsItsConditions : Prop :=
  ∀ s : State,
    let t := s.driveGate
    (t.cure.gate = .opened ↔
      (∃ p l i, s.tracker.flashOff = p :: l ∧ s.tracker.flash[p.tag] = some i ∧ i.done = true) ∧
      s.cure.oven.length < 12 ∧ (∃ o, s.tables.oven = some o ∧ o.spacing ≤ s.cure.spacing) ∧
      s.tracker.cool.length < 3 ∧ (s.line.mode = .run ∨ s.line.mode = .freeze ∨ s.line.mode = .drain) ∧
      s.cure.ovenStop = false) ∧
    t.ports = { s.ports with
      oven := if t.cure.gate = s.cure.gate then s.ports.oven else s.ports.oven.issue (.entryGate t.cure.gate) } ∧
    t = { s with cure := { s.cure with gate := t.cure.gate }, ports := t.ports }

/-- Deadlines of a board and the oven silence, once reached: flash-off sets the done flag and re-examines the
gate for the head; open time adds OPEN_TIME; the recoat deadline clears the open flag and appends RECOAT_EXPIRED;
oven silence in RECEIVING makes the sampling SILENT, adds CURE_UNVERIFIED to every board in the oven and appends
OVEN_SILENT (R127, R128, R141, R164). One not reached does nothing (notes/assumptions/2.md, 3.md). -/
def Obligations.ReachedDeadlinesAct : Prop :=
  ∀ (s : State) (n : Tag), s.running →
    let past (d : Time) : Prop := (s.lineTime - d).toNat < 2 ^ 31
    let items (i : FlashItems) : State :=
      { s with tracker := { s.tracker with flash := s.tracker.flash.set n (some i) } }
    let put (u : State) (b : BoardRecord) : State :=
      { u with tracker := { u.tracker with boards := u.tracker.boards.set n b } }
    (∀ (i : FlashItems) (d : Time), s.tracker.flash[n] = some i → i.flashDeadline = some d →
      let u := items { i with flashDeadline := none, done := true }
      (¬past d → exec (.flashOffDeadlineExpiry n) s = .next s) ∧
      (past d → (∃ p l, s.tracker.flashOff = p :: l ∧ p.tag = n) →
        exec (.flashOffDeadlineExpiry n) s = .next u.driveGate) ∧
      (past d → (∀ p l, s.tracker.flashOff = p :: l → p.tag ≠ n) →
        exec (.flashOffDeadlineExpiry n) s = .next u)) ∧
    (∀ (i : FlashItems) (d : Time), s.tracker.flash[n] = some i → i.openDeadline = some d →
      (¬past d → exec (.openTimeDeadlineExpiry n) s = .next s) ∧
      (past d → exec (.openTimeDeadlineExpiry n) s = .next (put (items { i with openDeadline := none })
        { s.record n with reasons := (s.record n).reasons ||| 32 }))) ∧
    (∀ d : Time, (s.record n).recoatDeadline = some d →
      ((s.record n).valid = true → (s.record n).recoatOpen = true → past d →
        exec (.recoatExpired n) s = .next ((put s { s.record n with recoatOpen := false }).append
          (.recoatExpired n (s.record n).serial))) ∧
      ((s.record n).valid = false ∨ (s.record n).recoatOpen = false ∨ ¬past d →
        exec (.recoatExpired n) s = .next s)) ∧
    (∀ d : Time, s.cure.silence = some d →
      (s.cure.sampling = .silent ∨ ¬past d → exec .ovenSilent s = .next s) ∧
      (s.cure.sampling = .receiving → past d → ∃ t, exec .ovenSilent s = .next t ∧
        t.cure = { s.cure with sampling := .silent, silence := none } ∧
        t.exchange = (s.append (.ovenSilent s.cure.oven.length)).exchange ∧
        (∀ m : Tag, t.record m = if m ∈ s.cure.oven then
          { s.record m with reasons := (s.record m).reasons ||| 512 } else s.record m) ∧
        t = { s with
          cure := t.cure
          exchange := t.exchange
          tracker := { s.tracker with boards := t.tracker.boards } }))

/-- ENTRY_SEEN with the gate OPEN: the flash-off head enters the oven list with stage CURING, its entry time, and
position and dose 0 (and CURE_UNVERIFIED in silence); its flash-off items go, the spacing restarts at 0, the gate
closes and is re-examined, and OVEN_ENTERED is appended. With the gate CLOSED the fault UNKNOWN_AT_ENTRY is
raised, with the flash-off head or none (R133, R134, R141). -/
def Obligations.EntriesPassTheOpenGate : Prop :=
  ∀ s : State, s.idlePort .oven →
    (∀ (p : Place) (l : List Place), s.cure.gate = .opened → s.tracker.flashOff = p :: l →
      let n := p.tag
      ∃ t, exec .entrySeen s = .next t ∧ t.tracker.flashOff = l ∧ t.tracker.flash = s.tracker.flash.set n none ∧
        t.cure = { s.cure with oven := s.cure.oven ++ [n], spacing := 0, gate := t.gateWanted } ∧
        t.tracker.boards = s.tracker.boards.set n { s.record n with
          stage := .curing, ovenEntry := some s.lineTime, position := 0, dose := 0
          reasons := (s.record n).reasons ||| (if s.cure.sampling = .silent then 512 else 0) } ∧
        t.exchange = (s.append (.ovenEntered n (s.cure.oven.length + 1))).exchange ∧
        t.ports = { s.ports with oven :=
          if t.gateWanted = .opened then (s.ports.oven.issue (.entryGate .closed)).issue (.entryGate .opened)
          else s.ports.oven.issue (.entryGate .closed) } ∧
        t.sequencer = s.sequencer ∧ t.holds = s.holds ∧ t.coverage = s.coverage ∧ t.verifier = s.verifier ∧
        t.line = s.line ∧ t.tables = s.tables ∧ t.tracker.cool = s.tracker.cool) ∧
    (s.cure.gate = .closed →
      (∀ (p : Place) (l : List Place), s.tracker.flashOff = p :: l →
        exec .entrySeen s = .next (s.raiseFault .unknownAtEntry none (some p.tag) 1)) ∧
      (s.tracker.flashOff = [] → exec .entrySeen s = .next (s.raiseFault .unknownAtEntry none none 2)))

/-- OVEN_SAMPLE: the sampling is RECEIVING with its deadline 2000 ms on; each zone takes its reading, with
ZONE_STATE where its state changes; the spacing grows by the delta, at most 4095; and each board in the oven
advances, takes the weight of its zone's value, and gains SCORCH or CURE_UNVERIFIED, or nothing but its position
in the run-out; then the gate is re-examined (R138, R139, R140). -/
def Obligations.OvenSamplesAdvanceAndDose : Prop :=
  ∀ (s : State) (readings : Vector Half 6) (delta : Half), s.idlePort .oven → s.cure.oven.Nodup →
    let d := min 4095 delta.toNat
    let zone (z : Fin 6) : ZoneValue :=
      let old := s.cure.zones[z]
      if readings[z].toNat ≤ 400 then ⟨readings[z].toNat, 0, true⟩
      else ⟨old.value, min 255 (old.stale + 1), if old.stale + 1 = 3 then false else old.verified⟩
    let changed := (List.finRange 6).filter fun z => (zone z).verified != s.cure.zones[z].verified
    ∃ t, exec (.ovenSample readings delta) s = .next t ∧
      t.cure = { s.cure with
        sampling := .receiving, silence := some (s.lineTime + 2000), zones := Vector.ofFn zone
        spacing := min 65535 (s.cure.spacing + d), gate := t.gateWanted } ∧
      t.exchange = (changed.foldl
        (fun (u : State) z => u.append (.zoneState z (zone z).verified (zone z).value)) s).exchange ∧
      (∀ n : Tag, n ∉ s.cure.oven → t.record n = s.record n) ∧
      (∀ n : Tag, n ∈ s.cure.oven →
        let b := s.record n
        let c := s.boardCoating n
        let position := min 65535 (b.position + d)
        (∀ z : Fin 6, position < s.zoneEnd (z.val + 1) → s.zoneEnd z.val ≤ position → ∀ w : Nat,
          c.weighs (zone z).value w →
          t.record n = { b with
            position := position
            dose := min 65535 (b.dose + w)
            reasons := b.reasons ||| (if c.scorch ≤ (zone z).value then 256 else 0) |||
              (if (zone z).verified = true then 0 else 512) }) ∧
        (s.zoneEnd 6 ≤ position → t.record n = { b with position := position, dose := min 65535 b.dose })) ∧
      t = { s with
        cure := t.cure
        exchange := t.exchange
        ports := t.ports
        tracker := { s.tracker with boards := t.tracker.boards } }

/-- EXIT_SEEN with an empty oven list raises UNKNOWN_AT_EXIT. Otherwise the head leaves the oven and is judged by
position and dose, and its exit time, recoat deadline and recoat flag are written; with room it joins the cool
list COOLING, with OVEN_EXITED, and as the head of that list takes its verdict; with none it is HELD with
EXIT_OVERRUN and joins the hold order, oven stop is asserted, with OVEN_STOP where it was released, the gate closes,
the boards in the oven gain OVEN_STOPPED, and EXIT_OVERRUN is raised (R142-R146, R151, R158; which boards a joining
one passes after a wrap: notes/assumptions/17.md). -/
def Obligations.ExitsJudgeTheHeadBoard : Prop :=
  ∀ s : State, s.idlePort .oven →
    (s.cure.oven = [] → exec .exitSeen s = .next (s.raiseFault .unknownAtExit none none 1)) ∧
    ∀ (n : Tag) (l : List Tag), s.cure.oven = n :: l → n ∉ l →
      let b := s.record n
      let c := s.boardCoating n
      let off := if b.position ≤ s.zoneEnd 6 then s.zoneEnd 6 - b.position else b.position - s.zoneEnd 6
      let why := b.reasons ||| (if s.oven.tolerance < off then 1024 else 0) |||
        (if b.dose < c.doseMin then 64 else 0) ||| (if c.doseMax < b.dose then 128 else 0)
      let judged : BoardRecord := { b with
        reasons := why, ovenExit := some s.lineTime, recoatOpen := true
        recoatDeadline := some (s.lineTime + word (60000 * c.recoatWindow)) }
      (s.tracker.cool.length < 3 →
        ∃ t, exec .exitSeen s = .next t ∧ t.cure = { s.cure with oven := l, gate := t.gateWanted } ∧
          t.tracker = { s.tracker with
            cool := s.tracker.cool ++ [⟨n, false⟩]
            boards := s.tracker.boards.set n { judged with
              stage := .cooling
              verdict := if s.tracker.cool ≠ [] then b.verdict else if why = 0 then .pass else .hold } } ∧
          t.exchange = (s.append (.ovenExited n b.dose b.position (s.tracker.cool.length + 1))).exchange ∧
          t = { s with cure := t.cure, tracker := t.tracker, exchange := t.exchange, ports := t.ports }) ∧
      (3 ≤ s.tracker.cool.length →
        let held : BoardRecord := { judged with
          reasons := why ||| 4096, stage := .held, verdict := .hold, location := .none
          heldTime := some s.lineTime }
        ∃ u : State, exec .exitSeen s = .next (u.raiseFault .exitOverrun none (some n) 1) ∧
          u.cure = { s.cure with oven := l, ovenStop := true, gate := .closed } ∧
          (∀ m : Tag, u.record m = if m = n then held
            else if m ∈ l then { s.record m with reasons := (s.record m).reasons ||| 2048 } else s.record m) ∧
          n ∈ u.holdOrder ∧ s.joinsHolds u n s.lineTime ∧ u.holds.slots = s.holds.slots ∧
          (let stop := if s.cure.ovenStop then s.ports.oven else s.ports.oven.issue (.ovenStop true)
           u.ports = { s.ports with
            oven := if s.cure.gate = .closed then stop else stop.issue (.entryGate .closed) }) ∧
          u.exchange = ((s.append (.ovenExited n b.dose b.position 3)).append
            (.boardHeld n .none (why ||| 4096))).exchange ∧
          u = { s with
            cure := u.cure
            exchange := u.exchange
            ports := u.ports
            holds := u.holds
            tracker := { s.tracker with boards := u.tracker.boards } })

/-! ### Holds (chapter 9) -/

/-- A SLOT_STATE report: OCCUPIED makes a FREE slot FOREIGN; EMPTY makes a FOREIGN slot FREE, and an ASSIGNED one
FREE with its board's location REMOVED; each change appends SLOT_STATE; every other report, a slot above 7 and an
undefined report code change nothing (R156, R157, R183). -/
def Obligations.SlotReportsFollowTheTable : Prop :=
  ∀ (s : State) (slot : Byte), s.idlePort .station →
    (8 ≤ slot.toNat → ∀ report : Byte, exec (.slotState slot report) s = .next s) ∧
    (∀ report : Byte, report ≠ 1 → report ≠ 2 → exec (.slotState slot report) s = .next s) ∧
    ∀ n : SlotId, n.val = slot.toNat →
      let put (v : SlotState) : State := { s with holds := { s.holds with slots := s.holds.slots.set n v } }
      exec (.slotState slot 1) s = .next (match s.holds.slots[n] with
        | .free => (put .foreign).append (.slotState n .foreign .free none)
        | _ => s) ∧
      exec (.slotState slot 2) s = .next (match s.holds.slots[n] with
        | .assigned m => ({ put .free with tracker := { s.tracker with
            boards := s.tracker.boards.set m { s.record m with location := .removed } } } : State).append
              (.slotState n .free (.assigned m) (some m))
        | .foreign => (put .free).append (.slotState n .free .foreign none)
        | _ => s)

/-- DISPOSE with action RELEASE or SCRAP, on a record that is valid, of the card's serial and HELD: its RETAINED
frame becomes FREE, its tag leaves the hold order, its record is freed, its slot becomes FOREIGN with SLOT_STATE,
and the loader-ready level follows. On any other record the card is refused (R160, R161; that a disposition
leaves the line mode as it is: notes/assumptions/27.md). -/
def Obligations.DisposedBoardsLeaveTheHold : Prop :=
  ∀ (s : State) (c : TakenCard) (rest : List TakenCard) (cmd : Instr) (n : Tag), s.nextCard c rest → c.kind = 10 →
    (cmd, c.u8 17) ∈ [(Instr.disposeRelease, 1), (.disposeScrap, 2)] → c.longEnough 16 → c.u8 16 = n.val →
    let b := s.record n
    let refused (r : CardResult) : Prop := exec cmd s = .next (s.completeCard c rest r)
    (b.valid = false → refused ⟨.refusedUnknown, [1]⟩) ∧
    (b.valid = true → b.serial ≠ c.u64 24 → refused ⟨.refusedUnknown, [2]⟩) ∧
    (b.valid = true → b.serial = c.u64 24 → b.stage ≠ .held → refused ⟨.refusedState, [1, word b.stage.code]⟩) ∧
    (b.valid = true → b.serial = c.u64 24 → b.stage = .held →
      let frees (f : FrameId) : Prop := b.mapFrame = some f ∧ s.coverage.frames[f].state = .retained ∧
        s.coverage.frames[f].owner = some n
      ∃ (u : State) (frame slot : Word), exec cmd s = .next (u.completeCard c rest
          ⟨.ok, [word (c.u8 17), frame, slot]⟩) ∧
        u.tracker.boards = s.tracker.boards.set n { b with valid := false } ∧
        u.tracker.loaderReady = u.loaderCondition ∧ u.tracker.admissions = s.tracker.admissions ∧
        u.holdOrder = s.holdOrder.filter (fun m => m != n) ∧
        (∀ f, frees f → frame = word f.val ∧ u.coverage.frames = s.coverage.frames.set f ⟨.free, none, none⟩) ∧
        ((∀ f, ¬frees f) → frame = 0xFFFFFFFF ∧ u.coverage = s.coverage) ∧
        (∀ m, b.location = .slot m → slot = word m.val ∧ u.holds.slots = s.holds.slots.set m .foreign ∧
          u.exchange = (s.append (.slotState m .foreign s.holds.slots[m] s.holds.slots[m].tag)).exchange) ∧
        ((∀ m, b.location ≠ .slot m) → slot = 0xFFFFFFFF ∧ u.holds.slots = s.holds.slots ∧
          u.exchange = s.exchange) ∧
        u.sequencer = s.sequencer ∧ u.cure = s.cure ∧ u.line = s.line ∧ u.tables = s.tables)

/-- DISPOSE with action RECOAT on a held board of the card's serial: the refusals of R162 in their order;
otherwise an admission entry with the next pass and the board's frame joins the tail, the frame becomes RESERVED
with no owner, the slot FOREIGN, and the board leaves the hold order and its record is freed (R162, R163; that a
recoat leaves the line mode as it is: notes/assumptions/27.md). -/
def Obligations.RecoatsReturnToTheLoader : Prop :=
  ∀ (s : State) (c : TakenCard) (rest : List TakenCard) (n : Tag), s.nextCard c rest → c.kind = 10 → c.u8 17 = 3 →
    c.longEnough 16 → c.u8 16 = n.val →
    let b := s.record n
    b.valid = true → b.serial = c.u64 24 → b.stage = .held →
    let refused (r : CardResult) : Prop := exec .disposeRecoat s = .next (s.completeCard c rest r)
    let barred : Prop := b.hasReason .filmThick = true ∨ b.hasReason .overcure = true ∨ b.hasReason .scorch = true ∨
      b.hasReason .exitOverrun = true
    (b.sprayStart = none → refused ⟨.refusedState, [2]⟩) ∧
    (b.sprayStart ≠ none → barred → refused ⟨.refusedState, [3, b.reasons]⟩) ∧
    (b.sprayStart ≠ none → ¬barred → b.mapFrame = none → refused ⟨.refusedState, [4]⟩) ∧
    ∀ f : FrameId, b.sprayStart ≠ none → ¬barred → b.mapFrame = some f →
      (s.tables.recipes[b.recipe] = none → refused ⟨.refusedState, [5]⟩) ∧
      ∀ r : Recipe, s.tables.recipes[b.recipe] = some r →
        (r.recoatLimit < b.pass → refused ⟨.refusedRange, [17, word b.pass, word r.recoatLimit]⟩) ∧
        (b.pass ≤ r.recoatLimit → b.recoatOpen = false → refused ⟨.refusedTooLate, []⟩) ∧
        (b.pass ≤ r.recoatLimit → b.recoatOpen = true →
          let full := (s.coverage.frames.toList.filter fun e => e.state == .reserved).length
          (4 ≤ full → refused ⟨.refusedFull, [1]⟩) ∧
          (full < 4 → 16 ≤ s.tracker.admissions.length → refused ⟨.refusedFull, [2]⟩) ∧
          (full < 4 → s.tracker.admissions.length < 16 →
            ∃ u : State, exec .disposeRecoat s = .next (u.completeCard c rest
                ⟨.ok, [3, word f.val, word (b.pass + 1), word (s.tracker.admissions.length + 1)]⟩) ∧
              u.tracker.admissions = s.tracker.admissions ++ [Admission.mk b.serial b.recipe (b.pass + 1) (some f)] ∧
              u.tracker.boards = s.tracker.boards.set n { b with valid := false } ∧
              u.tracker.loaderReady = u.loaderCondition ∧
              u.coverage.frames = s.coverage.frames.set f ⟨.reserved, none, some (b.pass + 1)⟩ ∧
              u.holdOrder = s.holdOrder.filter (fun m => m != n) ∧
              (∀ m, b.location = .slot m → u.holds.slots = s.holds.slots.set m .foreign ∧
                u.exchange = (s.append (.slotState m .foreign s.holds.slots[m] s.holds.slots[m].tag)).exchange) ∧
              ((∀ m, b.location ≠ .slot m) → u.holds.slots = s.holds.slots ∧ u.exchange = s.exchange) ∧
              u.sequencer = s.sequencer ∧ u.cure = s.cure ∧ u.line = s.line ∧ u.tables = s.tables))

/-- R165 as it acts on the card's own event: RECLAIM_MAP is refused in the order of its checks; an accepted card
leaves the record without a map frame and the frame FREE, and appends MAP_RECLAIMED with cause 2. -/
def Obligations.ReclaimMapFreesTheFrame : Prop :=
  ∀ (s : State) (c : TakenCard) (rest : List TakenCard), s.nextCard c rest → c.kind = 11 →
    let refused (r : CardResult) : Prop := exec .reclaimMap s = .next (s.completeCard c rest r)
    (¬c.longEnough 1 → refused ⟨.refusedRange, [8]⟩) ∧
    (c.longEnough 1 → 31 < c.u8 16 → refused ⟨.refusedRange, [16]⟩) ∧
    ∀ n : Tag, c.longEnough 1 → c.u8 16 = n.val →
      let b := s.record n
      (b.valid = false → refused ⟨.refusedUnknown, [1]⟩) ∧
      (b.valid = true → b.mapFrame = none → refused ⟨.refusedUnknown, [2]⟩) ∧
      (b.valid = true → ∀ f : FrameId, b.mapFrame = some f →
        (s.coverage.frames[f].state ≠ .retained →
          refused ⟨.refusedState, [word s.coverage.frames[f].state.code, word f.val]⟩) ∧
        (s.coverage.frames[f].state = .retained →
          exec .reclaimMap s = .next ((({ s with
              tracker := { s.tracker with boards := s.tracker.boards.set n { b with mapFrame := none } }
              coverage := { s.coverage with frames := s.coverage.frames.set f ⟨.free, none, none⟩ } } : State).append
            (.mapReclaimed f n .reclaimMap)).completeCard c rest ⟨.ok, [word f.val]⟩)))

/-! ### Line modes, faults and restart (chapter 10) -/

/-- A fault raised in READY, RUN, FREEZE or DRAIN is a first fault: the mode is FAULTED with its cause,
ATTN.FAULT is set, FAULT with the first flag and then LINE_MODE are appended, loader-ready falls, the gate is
CLOSED, and a RUNNING or INTERLOCKED cell is STOPPED with cause MOTION while every other cell state stands. In
LOST and FAULTED a fault only appends FAULT without the first flag (R171, R172; an active cell without a board, which
no run reaches: notes/assumptions/10.md). -/
def Obligations.FirstFaultsStopTheLine : Prop :=
  ∀ (s : State) (code : FaultCode) (route : Option Route) (tag : Option Tag) (cause : Nat),
    let t := s.raiseFault code route tag cause
    let active : Prop := s.sequencer.cell = .running ∨ s.sequencer.cell = .interlocked
    let logged : State := ((({ s with exchange := { s.exchange with attn := s.exchange.attn ||| 0b01000 } } :
      State).append (.fault code true route tag cause)).append (.lineMode .faulted s.line.mode none))
    (s.line.mode = .lost ∨ s.line.mode = .faulted → t = s.append (.fault code false route tag cause)) ∧
    (s.line.mode ≠ .lost → s.line.mode ≠ .faulted →
      t.line = ⟨.faulted, some code⟩ ∧ t.exchange.attn.getLsbD 3 = true ∧ t.tracker.loaderReady = false ∧
      t.cure = { s.cure with gate := .closed } ∧
      (¬active → t.sequencer = s.sequencer ∧ t.tracker.boards = s.tracker.boards ∧
        t.exchange = logged.exchange) ∧
      (active → t.sequencer.cell = .stopped ∧ t.sequencer.stopCause = some .motion ∧
        t.sequencer.phase = .none ∧ t.sequencer.valve = none ∧
        t.exchange = (logged.append (.cellState s.cellBoard .stopped s.sequencer.cell (some .motion))).exchange) ∧
      t.tables = s.tables ∧ t.holds = s.holds ∧ t.coverage = s.coverage ∧ t.verifier = s.verifier ∧
      t.cards = s.cards ∧ t.lineTime = s.lineTime)

/-- DECLARE_CLEAR is refused for a long body and outside LOST and FAULTED. Otherwise every valid record in a
transport stage becomes HELD with LINE_CLEARED, location NONE and the time of the card, and these join the hold order
at its end, by tag, among the boards already held at that time;
the lists, routes, flash-off items and the oven list are emptied; RESERVED slots become FREE; the ACTIVE and the
owned RESERVED frames become RETAINED; the cell is IDLE, the gate CLOSED, oven stop released and the mode READY
with no first fault; tables, admissions, monitors, guard, zones and spacing stand. A SLOT_STATE for each RESERVED slot,
CELL_STATE if the cell was not IDLE, and LINE_MODE are appended, and OVEN_STOP goes out if it was asserted (R107,
R158, R173, R174). That the boards stand by tag among all held at that time, after a wrap too, and behind every board
kept across a reset, that the cell's deadline, valve and valve start time are cleared, and that every frame found
ACTIVE is retained, is the model's choice (DEDUCED, notes/assumptions/17.md, 23.md, 26.md). -/
def Obligations.DeclareClearHoldsEveryBoard : Prop :=
  ∀ (s : State) (c : TakenCard) (rest : List TakenCard), s.nextCard c rest → c.kind = 12 →
    let moved (n : Tag) : Prop := (s.record n).valid = true ∧ (s.record n).stage ≠ .held
    let reserved := ((List.finRange 8).filter fun k => s.holds.slots[k].code == 1).length
    let boards := ((List.finRange 32).filter fun n => (s.record n).valid && (s.record n).stage != .held).length
    (976 < c.bodyLength.toNat → exec .declareClear s = .next (s.completeCard c rest ⟨.refusedRange, [8]⟩)) ∧
    (c.bodyLength.toNat ≤ 976 → s.line.mode ≠ .lost → s.line.mode ≠ .faulted →
      exec .declareClear s = .next (s.completeCard c rest ⟨.refusedState, [word s.line.mode.code]⟩)) ∧
    (c.bodyLength.toNat ≤ 976 → s.line.mode = .lost ∨ s.line.mode = .faulted →
      ∃ u : State, exec .declareClear s = .next (u.completeCard c rest
          ⟨.ok, [word s.line.mode.code, word (faultByte s.line.firstFault), word boards, word reserved]⟩) ∧
        u.line = ⟨.ready, none⟩ ∧ u.verifier = ⟨.idle, .none⟩ ∧
        (∀ n, (moved n → u.record n = { s.record n with
            reasons := (s.record n).reasons ||| 8192, stage := .held, verdict := .hold, location := .none
            heldTime := some s.lineTime } ∧ n ∈ u.holdOrder) ∧ (¬moved n → u.record n = s.record n)) ∧
        (∀ n ∈ s.holdOrder, n ∈ u.holdOrder) ∧
        u.tracker = { Tracker.reset u.tracker.boards with admissions := s.tracker.admissions } ∧
        (∀ f : FrameId, u.coverage.frames[f] =
          let e := s.coverage.frames[f]
          if e.state = .active ∨ (e.state = .reserved ∧ e.owner ≠ none) then { e with state := .retained } else e) ∧
        (∀ k : SlotId, u.holds.slots[k] = if s.holds.slots[k].code = 1 then .free else s.holds.slots[k]) ∧
        u.sequencer = { s.sequencer with
          cell := .idle, stopCause := none, stopApplicator := none, index := 0, segment := none, phase := .none
          deadline := none, valve := none, valveStart := none } ∧
        u.cure = { s.cure with oven := [], ovenStop := false, gate := .closed } ∧
        u.tables = s.tables ∧ u.lineTime = s.lineTime ∧
        (∀ before after : List Tag, s.holds.since = before ++ after → (∀ n ∈ s.holds.since, ¬moved n) →
          (∀ n ∈ after, (s.record n).heldTime = some s.lineTime) → after.Pairwise (· < ·) →
          (∀ n, before.getLast? = some n → (s.record n).heldTime ≠ some s.lineTime) →
          ∃ last : List Tag, u.holdOrder = s.holds.kept ++ before ++ last ∧ last.Pairwise (· < ·) ∧
            ∀ n, n ∈ last ↔ n ∈ after ∨ moved n) ∧
        (let freed := ((List.finRange 8).filter fun k => s.holds.slots[k].code == 1).foldl
          (fun (v : State) k => v.append (.slotState k .free s.holds.slots[k] s.holds.slots[k].tag)) s
         let stopped := if s.sequencer.cell = .idle then freed
          else freed.append (.cellState none .idle s.sequencer.cell none)
         u.exchange = (stopped.append (.lineMode .ready s.line.mode none)).exchange) ∧
        u.ports = { s.ports with
          station := if s.tracker.loaderReady then s.ports.station.issue (.loaderReady false) else s.ports.station
          oven := if s.cure.ovenStop then s.ports.oven.issue (.ovenStop false) else s.ports.oven })

/-- POWER_ON returns the part to its reset state, whatever it held. There line time is 0 and the mode LOST with no
fault cause and oven stop released; START_STATUS holds POWER_ON alone, ATTN RESTART, and the interrupt line is
released; every directory entry is FREE and every board record, map cell and host header byte reads zero, every frame
is FREE; the tables, lists and slots are empty or FREE, the routes, the Mask Verifier, the cell and the Card Processor
idle, the guard OPEN, the monitors UNKNOWN; LINE_MODE(LOST, 0, POWER_ON) stands at index 0 of the activity list; and
each port holds the reset outputs. The state meets every law of a state. While the part runs each tick adds one
millisecond modulo 2^32 and changes nothing else (R25, R45, R136, R175-R177, R186). The commands that wait and the
model's counter of free values stand (notes/assumptions/1.md); of the reset state, ATTN.ACTIVITY, the empty field lines
and the absent pre-start sample are the model's (notes/assumptions/6.md, 13.md, 22.md), and so
is that the zeroing of a POWER_ON restart is never cut (notes/assumptions/30.md). -/
def Obligations.PowerOnRestoresTheResetState : Prop :=
  (∀ (s : State) (n : Nat), exec (.powerOnReset (.restart n)) s =
    .next { State.reset with pending := s.pending, freeCount := s.freeCount }) ∧
  (∀ s : State, s.running → exec .lineTimeTick s = .next { s with lineTime := s.lineTime + 1 }) ∧
  State.reset.lineTime = 0 ∧ State.reset.canonical ∧ State.reset.filmLaw ∧ State.reset.cellLaw ∧
    State.reset.frameLaw ∧ State.reset.listLaw ∧ State.reset.roomLaw ∧ State.reset.serialLaw ∧
    State.reset.running ∧ State.reset.line = ⟨.lost, none⟩ ∧ State.reset.lineCtl = 0 ∧
    State.reset.exchange.startStatus = 0b001 ∧ State.reset.exchange.attn.getLsbD 4 = true ∧
    State.reset.exchange.attnEn = 0 ∧ State.reset.interrupt = false ∧ State.reset.exchange.scanPending = false ∧
    State.reset.cards = ⟨[], none⟩ ∧
    (∀ k : CardId, State.reset.exchange.directory[k] = ⟨.free, 0⟩) ∧
    (∀ n : Tag, (State.reset.record n).valid = false ∧
      ∀ i < 128, State.reset.readByte (0x2000 + 128 * n.val + i) = 0) ∧
    (∀ f : FrameId, State.reset.coverage.frames[f] = ⟨.free, none, none⟩) ∧
    (∀ o, (0x100 ≤ o ∧ o < 0x200) ∨ (0x1010 ≤ o ∧ o < 0x2000) ∨ 0x4000 ≤ o → State.reset.readByte o = 0) ∧
    State.reset.exchange.writeIndex = 1 ∧
    State.reset.bytesAt 0x1000 16 = [18, 9, 0, 0, 1, 0, 0, 0, 0, 0, 0, 0, 0, 0, 0, 0] ∧
    (∀ a : ApplicatorId, State.reset.tables.applicators[a] = ⟨none, false⟩) ∧
    (∀ k : CoatingId, State.reset.tables.coatings[k] = none) ∧
    (∀ i : RecipeId, State.reset.tables.recipes[i] = none) ∧
    (∀ p : ProgramId, State.reset.tables.programs[p] = ⟨.empty, [], none⟩) ∧
    (∀ e : Fin 4, State.reset.tables.patches[e] = none) ∧ State.reset.tables.oven = none ∧
    State.reset.tracker.admissions = [] ∧ State.reset.tracker.loaderReady = false ∧
    (∀ r : Route, State.reset.tracker.source r = [] ∧ State.reset.tracker.route r = .idle) ∧
    State.reset.tracker.flashOff = [] ∧ State.reset.cure.oven = [] ∧ State.reset.verifier = ⟨.idle, .none⟩ ∧
    State.reset.sequencer.cell = .idle ∧ State.reset.sequencer.guard = .opened ∧
    State.reset.sequencer.valve = none ∧
    (∀ a : ApplicatorId, State.reset.sequencer.monitors[a].state = .unknown) ∧
    (∀ z : Fin 6, State.reset.cure.zones[z] = ⟨0, 0, false⟩) ∧ State.reset.cure.sampling = .receiving ∧
    State.reset.cure.silence = some 2000 ∧ State.reset.cure.spacing = 0 ∧ State.reset.cure.gate = .closed ∧
    State.reset.cure.ovenStop = false ∧ (∀ n : SlotId, State.reset.holds.slots[n] = .free) ∧
    State.reset.holdOrder = [] ∧
    State.reset.ports = {
      motion := ⟨.awaitKind, [.halt], []⟩
      fluid := ⟨.awaitKind, [.valveClose 0, .valveClose 1, .valveClose 2, .valveClose 3], []⟩
      station := ⟨.awaitKind, [.loaderReady false], []⟩
      oven := ⟨.awaitKind, [.entryGate .closed, .ovenStop false], []⟩ }

/-- A SUPPLY_DIP or PIN reset whose restart is let run: line time 0, ATTN_EN 0, ATTN.RESTART, the START_STATUS bit of
its cause, the mode LOST, the tables, lists, cell, oven, slots and ports as every reset leaves them; each valid record
is HELD at location NONE with its recoat flag clear, one from a transport stage with RESET_INTERRUPTED and held time 0;
the frame of a valid record is RETAINED, every other FREE; the hold order is by held time, then tag. The activity list
holds LINE_MODE with the kind at index 0, then CARD_DONE for each card left TAKEN, in card order, then BOARD_HELD for
each valid record, in tag order; each such card is DONE with ABORTED_BY_RESET, zero detail words and the host tag in
its result section; no other card byte, list byte or map cell changes. Of causes that are present together POWER_ON
and then SUPPLY_DIP gives the kind, and each sets its bit, POWER_ON alone clearing the others. A part held in reset
only notes the causes and falls silent on its ports, and every other command passes it by. A restart cut short by
another reset begins again, and one that is let go on answers the next event when it is complete (R36, R44, R115,
R175-R179, R186). That a command says how far the restart comes, that the commands waiting stand, and that an event
waits for the restart's end are the model's choices, as are the empty field lines and the absent pre-start sample
(notes/assumptions/1.md, 11.md, 13.md, 22.md, 24.md), and that no reset abandons a POWER_ON restart during its zeroing
(notes/assumptions/30.md). -/
def Obligations.RestartsConvertTheBoards : Prop :=
  (∀ (s : State) (cause kind : ResetKind) (cmd : Nat → Instr) (visits : Nat), s.canonical →
    (cause = .supplyDip ∧ cmd = (fun n => .supplyDipReset (.restart n))) ∨
      (cause = .pin ∧ cmd = (fun n => .pinReset (.restart n))) →
    s.joinedKind cause = kind → kind ≠ .powerOn → 96 ≤ visits →
    let aborted := (List.finRange 64).filter fun k => s.exchange.directory[k].state == .taken
    let kept := (List.finRange 32).filter fun n => (s.record n).valid
    let hostTag (k : CardId) : List Byte := (List.range 4).map fun i => s.exchange.mem.read (cardAt k + 4 + i)
    ∃ t, exec (cmd visits) s = .next t ∧ t.running ∧ t.lineTime = 0 ∧ t.exchange.attnEn = 0 ∧
      t.exchange.attn.getLsbD 4 = true ∧
      t.exchange.startStatus = s.exchange.startStatus ||| (if cause = .supplyDip then 0b010 else 0b100) ∧
      t.exchange.scanPending = false ∧
      t.cards = ⟨[], none⟩ ∧ t.tables = Tables.reset ∧ t.tracker = Tracker.reset t.tracker.boards ∧
      t.verifier = Verifier.reset ∧ t.sequencer = Sequencer.reset ∧ t.cure = Cure.reset ∧ t.line = ⟨.lost, none⟩ ∧
      t.ports = Ports.reset ∧ t.holds.slots = Vector.replicate 8 .free ∧ t.pending = s.pending ∧
      (∀ n : Tag, t.record n =
        let b := s.record n
        if b.valid = false then b
        else if b.stage = .held then { b with location := .none, recoatOpen := false }
        else { b with
          stage := .held, verdict := .hold, location := .none, heldTime := some 0, recoatOpen := false
          reasons := b.reasons ||| 16384 }) ∧
      (∀ (f : FrameId) (n : Tag), (t.record n).valid = true → (t.record n).mapFrame = some f →
        (∀ m, (t.record m).valid = true → (t.record m).mapFrame = some f → m = n) →
        t.coverage.frames[f] = ⟨.retained, some n, some (t.record n).pass⟩) ∧
      (∀ f : FrameId, (∀ n, (t.record n).valid = true → (t.record n).mapFrame ≠ some f) →
        t.coverage.frames[f] = ⟨.free, none, none⟩) ∧
      (∀ n : Tag, n ∈ t.holdOrder ↔ (t.record n).valid = true) ∧
      t.holdOrder.Pairwise (fun a b =>
        let time (n : Tag) : Nat := (((t.record n).heldTime).getD 0).toNat
        time a < time b ∨ (time a = time b ∧ a < b)) ∧
      (∀ k : CardId, t.exchange.directory[k] =
        if s.exchange.directory[k].state = .taken then ⟨.done, 12⟩ else s.exchange.directory[k]) ∧
      (∀ k ∈ aborted, t.bytesAt (cardAt k + 992) 32 = le32 12 ++ List.replicate 24 0 ++ hostTag k) ∧
      (let log := [Activity.lineMode .lost .lost (some kind)] ++
        aborted.map (fun k =>
          .cardDone k (s.exchange.mem.read (cardAt k)) .abortedByReset (word (ofLe (hostTag k)))) ++
        kept.map (fun n => .boardHeld n .none (t.record n).reasons)
       t.exchange.writeIndex.toNat = log.length ∧
        (∀ (i : Nat) (e : Activity), log[i]? = some e → t.bytesAt (0x1000 + 16 * i) 16 = e.bytes 0) ∧
        ∀ a, 0x1000 + 16 * log.length ≤ a → (∀ k ∈ aborted, a < cardAt k + 992 ∨ cardAt k + 1024 ≤ a) →
          t.exchange.mem.read a = s.exchange.mem.read a) ∧
      (∀ a, 0x100 ≤ a → a < 0x200 → t.readByte a = 0)) ∧
  (∀ (s : State) (visits : Nat), s.start = .held .powerOn →
    ∀ cmd ∈ [Instr.pinReset (.restart visits), .supplyDipReset (.restart visits)],
      exec cmd s = .next { State.reset with pending := s.pending, freeCount := s.freeCount }) ∧
  (∀ (s : State) (cause : ResetKind) (cmd : Instr),
    (cause, cmd) ∈ [(ResetKind.powerOn, Instr.powerOnReset .held), (.supplyDip, .supplyDipReset .held),
      (.pin, .pinReset .held)] →
    let silent : PortState := ⟨.awaitKind, [], []⟩
    exec cmd s = .next { s with
      start := .held (s.joinedKind cause)
      ports := ⟨silent, silent, silent, silent⟩
      exchange := { s.exchange with
        startStatus := if s.joinedKind cause = .powerOn then 0b001
          else s.exchange.startStatus ||| (if cause = .supplyDip then 0b010 else 0b100) } }) ∧
  (∀ (s : State) (kind : ResetKind) (c : Instr), s.start = .held kind → ordinary c → exec c s = .next s) ∧
  ∀ (s : State) (cmd : Nat → Instr) (visits all : Nat),
    cmd = (fun n => .supplyDipReset (.restart n)) ∨ cmd = (fun n => .pinReset (.restart n)) → 96 ≤ all →
    ∃ t w : State, exec (cmd visits) s = .next t ∧ exec (cmd all) s = .next w ∧
      (t = w ∨ (t.start = .restarting visits ∧ exec .lineTimeTick t = .next { w with lineTime := 1 }))

/-! ### Field ports (chapter 11) -/

/-- The bytes of a frame with the right check byte, received between frames, deliver its message: the effect is
that of the message's own command, or none where kind, length or code does not fit the port: a command whose code
section 11.3 does not define has no effect. A wrong check byte, a frame abandoned before its end, and bytes while the
receiver discards have no effect; a length above 32 and a missing stop bit leave the receiver DISCARDING.
FRAME_DISCARDED, FRAME_ABANDONED and MISSING_STOP_BIT run on any bytes, and with bytes that deliver nothing they leave
at most the framing state changed: AWAIT_KIND after a pause, DISCARDING after a missing stop bit (R181, R183; that the
bytes may come from another command's row: notes/assumptions/19.md; that a message command is its whole frame:
notes/assumptions/18.md). -/
def Obligations.GoodFramesAreTheirMessages : Prop :=
  (∀ (s : State) (p : Port) (f : Frame), s.idlePort p → f.payload.length ≤ 32 →
    let discarding : State := s.setReceiver p .discarding
    (∀ c : Instr, f.command p = some c → exec c s = .next (s.receiveBytes p f.bytes) ∧
      (c.codesDefined = false → exec c s = .next s)) ∧
    (f.command p = none → exec (.frameDiscarded p f.bytes) s = .next s) ∧
    (∀ (body : List Byte) (b : Byte), f.bytes = body ++ [b] →
      (∀ wrong : Byte, wrong ≠ b → exec (.frameDiscarded p (body ++ [wrong])) s = .next s) ∧
      (∀ start rest : List Byte, body = start ++ rest →
        exec (.frameAbandoned p start) s = .next s ∧ exec (.missingStopBit p start) s = .next discarding)) ∧
    (∀ (length : Byte) (rest : List Byte), 32 < length.toNat →
      exec (.frameDiscarded p (f.kind :: length :: rest)) s = .next discarding) ∧
    (∀ bytes : List Byte, exec (.frameDiscarded p bytes) discarding = .next discarding ∧
      exec (.frameAbandoned p bytes) discarding = .next s)) ∧
  (∀ s : State, s.idlePort .station →
    (∀ (status : Byte) (serial : Serial), status ≠ 1 → status ≠ 2 → exec (.arrival status serial) s = .next s) ∧
    (∀ index value : Byte, value ≠ 1 → value ≠ 2 → exec (.maskResult index value) s = .next s) ∧
    (∀ slot report : Byte, report ≠ 1 → report ≠ 2 → exec (.slotState slot report) s = .next s) ∧
    ∀ state : Byte, state ≠ 1 → state ≠ 2 → exec (.guard state) s = .next s) ∧
  ∀ (s : State) (p : Port) (bytes : List Byte), s.running →
    let u := s.receiveBytes p bytes
    exec (.frameDiscarded p bytes) s = .next u ∧
    exec (.frameAbandoned p bytes) s = .next (u.setReceiver p .awaitKind) ∧
    exec (.missingStopBit p bytes) s = .next (u.setReceiver p .discarding) ∧
    (s.receiver p = .awaitKind →
      ((Instr.frameDiscarded p bytes).wellFormed = true →
        ∃ r, exec (.frameDiscarded p bytes) s = .next (s.setReceiver p r)) ∧
      ((Instr.frameAbandoned p bytes).wellFormed = true → exec (.frameAbandoned p bytes) s = .next s) ∧
      ((Instr.missingStopBit p bytes).wellFormed = true →
        exec (.missingStopBit p bytes) s = .next (s.setReceiver p .discarding)))

/-- A message issued joins its port's waiting frames, or is dropped while 32 wait. FRAME_TRANSMIT sends the front
one whole: kind, length, payload and the check byte over them, with which the CRC-8 of the whole frame is 0; with
none waiting it does nothing; the other ports stand. Each byte goes out as a low start bit, its eight bits least
significant first, and a high stop bit. Each message's frame is that of section 11.3 (R89, R180, R182, R184). That the
frame sent stands in the field line as levels, is sent whole in one command and leaves the 32 that wait as it begins
is the model's choice (notes/assumptions/13.md). -/
def Obligations.TransmittersSendCheckedFrames : Prop :=
  (∀ (s : State) (m : Message),
    s.send m = { s with ports := s.ports.set m.port { s.ports.get m.port with
      waiting := if (s.ports.get m.port).waiting.length < 32 then (s.ports.get m.port).waiting ++ [m]
        else (s.ports.get m.port).waiting } }) ∧
  (∀ (s : State) (p : Port), s.running →
    ((s.ports.get p).waiting = [] → exec (.frameTransmit p) s = .next s) ∧
    ∀ (m : Message) (rest : List Message), (s.ports.get p).waiting = m :: rest →
      ∃ line : List Byte, exec (.frameTransmit p) s = .next { s with
          ports := s.ports.set p { s.ports.get p with
            waiting := rest
            line := line.flatMap fun b => [false, b.getLsbD 0, b.getLsbD 1, b.getLsbD 2, b.getLsbD 3, b.getLsbD 4,
              b.getLsbD 5, b.getLsbD 6, b.getLsbD 7, true] } } ∧
        line.dropLast = [m.frame.kind, byte m.frame.payload.length] ++ m.frame.payload ∧ crc line = 0) ∧
  (∀ m : Message, m.frame.payload.length ≤ 16) ∧
  (∀ (n : Tag) (i : Nat) (dry : Bool) (head : ApplicatorKind) (a : ApplicatorId),
    let front (kind : Byte) : List Byte := [byte n.val] ++ le16 i ++ [kind, if dry then 1 else 0]
    let kind : Byte := match head with | .needle => 1 | .film => 2 | .atomize => 3 | .jet => 4
    (∀ (d : Direction) (column row length width trim speed : Nat),
      let way : Byte := match d with | .plusX => 1 | .minusX => 2 | .plusY => 3 | .minusY => 4
      (Message.segRun n i (.pass a d column row length width trim speed) dry head).frame =
        ⟨0x01, front 1 ++ [byte a.val, kind, byte column, byte row, way, byte length, byte width] ++ le16 speed ++
          [0, 0]⟩) ∧
    (∀ column row speed : Nat, (Message.segRun n i (.move column row speed) dry head).frame =
      ⟨0x01, front 2 ++ [0, 0, byte column, byte row, 0, 0, 0] ++ le16 speed ++ [0, 0]⟩) ∧
    ∀ column row width trim time : Nat, (Message.segRun n i (.dwell a column row width trim time) dry head).frame =
      ⟨0x01, front 3 ++ [byte a.val, kind, byte column, byte row, 0, 0, byte width, 0, 0] ++ le16 time⟩) ∧
  (Message.halt.frame = ⟨0x02, []⟩ ∧
    (∀ (a : ApplicatorId) (mask : Byte), (Message.valveOpen a mask).frame = ⟨0x11, [byte a.val, 1, mask]⟩ ∧
      (Message.valveClose a).frame = ⟨0x11, [byte a.val, 2, 0]⟩) ∧
    (∀ level : Bool, (Message.loaderReady level).frame = ⟨0x21, [if level then 1 else 0]⟩ ∧
      (Message.ovenStop level).frame = ⟨0x32, [if level then 1 else 0]⟩) ∧
    (∀ count : Nat, (Message.inspect count).frame = ⟨0x22, [byte count]⟩) ∧
    (∀ (r : Route) (slot : Nat), (Message.transfer r slot).frame =
      ⟨0x23, [match r with
        | .maskToInfeed => 1 | .maskToLane => 2 | .infeedToCell => 3 | .cellToFlash => 4 | .coolToExit => 5
        | .coolToSpur => 6, byte slot]⟩) ∧
    (Message.entryGate .opened).frame = ⟨0x31, [1]⟩ ∧ (Message.entryGate .closed).frame = ⟨0x31, [2]⟩)

/-! ### What every command keeps -/

/-- Every step keeps the memory in its canonical form and every map cell at most 4095 (R116). -/
def Obligations.StepsKeepMemoryAndFilm : Prop :=
  ∀ s t : State, s.canonical → s.filmLaw → step s = .next t → t.canonical ∧ t.filmLaw

/-- Every step keeps the law of the spray cell, on segments in flight, on the open valve and on the routes into
and out of it, and the law of the frames: one ACTIVE at most, none in IDLE or LOADING, four RESERVED at most
(R82, R84, R90, R97, R105, R109). -/
def Obligations.StepsKeepCellAndFrameLaws : Prop :=
  ∀ s t : State, s.cellLaw → s.frameLaw → step s = .next t → t.cellLaw ∧ t.frameLaw

/-- Every step keeps each list within its capacity: 16 admissions, one board at the mask station and in the cell,
two in the in-feed, four in flash-off, three in the cool list and twelve in the oven (R1, R13, R137). -/
def Obligations.StepsKeepListsWithinCapacity : Prop :=
  ∀ s t : State, s.cellLaw → s.listLaw → s.roomLaw → step s = .next t → t.listLaw ∧ t.roomLaw

/-- Every step keeps serials unique among admission entries and valid records: a serial appears at most once
(R2). -/
def Obligations.StepsKeepSerialsUnique : Prop :=
  ∀ s t : State, s.serialLaw → step s = .next t → t.serialLaw

/-- Every step of a well-formed command, with no receiver inside a frame, keeps the serial, recipe, pass and reasons of
each record that is valid before and after it, and leaves no receiver inside a frame, as POWER_ON does (R8, R12, R181).
An ill-formed command, or bytes that go on inside a frame, may deliver two frames in one step, and the second an ARRIVAL
on the tag that the first has freed: that a command carries its frame's bytes, and which are well formed, is the model's
choice (notes/assumptions/18.md, 19.md). Every step of a command that is no reset keeps a recipe in use, its coating
while loaded and its path program while COMPLETE (R46). -/
def Obligations.StepsKeepRecordsAndTablesInUse : Prop :=
  State.reset.receiversSettled ∧
  ∀ (s t : State) (c : Instr) (rest : List Instr), s.pending = c :: rest → step s = .next t →
    (c.wellFormed = true → s.receiversSettled → s.recordsKept t ∧ t.receiversSettled) ∧
      (ordinary c → s.tablesKept t)
end

