-- ==== Sys2Proof/Laws/Memory.lean ====
section
/-! SUPPORT. The laws of sparse memory: every write keeps the canonical form, and a read after a write
gives the byte written, or the byte that stood there before. -/

namespace Sys2Proof.Machine

/-- The empty memory is canonical. -/
theorem Memory.wf_nil : Memory.wf [] := by simp [Memory.wf]

/-- The tail of a canonical memory is canonical. -/
theorem Memory.wf_tail {c : Host.Cell} {m : Memory} (h : Memory.wf (c :: m)) : Memory.wf m :=
  ⟨(List.pairwise_cons.1 h.1).2, fun d hd => h.2 d (List.mem_cons_of_mem c hd)⟩

/-- Below its first address a canonical memory reads 0. -/
theorem Memory.read_below {m : Memory} {x : Nat} (h : ∀ c ∈ m, x < c.1) : m.read x = 0 := by
  induction m with
  | nil => rfl
  | cons c m ih =>
    obtain ⟨a, b⟩ := c
    have ha : x < a := h _ List.mem_cons_self
    simp only [Memory.read]
    rw [if_neg (by omega)]
    exact ih fun c hc => h c (List.mem_cons_of_mem _ hc)

/-- An entry of a memory after a write is one of before, or the byte written, which is not 0. -/
theorem Memory.mem_write {m : Memory} {x : Nat} {v : Byte} {d : Host.Cell} (h : d ∈ m.write x v) :
    d ∈ m ∨ (d = (x, v) ∧ v ≠ 0) := by
  induction m with
  | nil => by_cases hv : v = 0 <;> simp_all [Memory.write]
  | cons c m ih =>
    obtain ⟨a, b⟩ := c
    simp only [Memory.write] at h
    split at h
    · by_cases hv : v = 0
      · simp_all
      · rw [if_neg hv] at h
        rcases List.mem_cons.1 h with h | h
        · exact .inr ⟨h, hv⟩
        · exact .inl h
    · split at h
      · by_cases hv : v = 0
        · rw [if_pos hv] at h
          exact .inl (List.mem_cons_of_mem _ h)
        · rw [if_neg hv] at h
          rcases List.mem_cons.1 h with h | h
          · exact .inr ⟨h, hv⟩
          · exact .inl (List.mem_cons_of_mem _ h)
      · rcases List.mem_cons.1 h with h | h
        · exact .inl (h ▸ List.mem_cons_self)
        · rcases ih h with h | h
          · exact .inl (List.mem_cons_of_mem _ h)
          · exact .inr h

/-- A write keeps the canonical form. -/
theorem Memory.wf_write {m : Memory} (h : Memory.wf m) (x : Nat) (v : Byte) : Memory.wf (m.write x v) := by
  induction m with
  | nil => by_cases hv : v = 0#8 <;> simp [Memory.write, Memory.wf, hv]
  | cons c m ih =>
    obtain ⟨a, b⟩ := c
    have hp := List.pairwise_cons.1 h.1
    simp only [Memory.write]
    split
    · rename_i hx
      split
      · exact h
      · rename_i hv
        refine ⟨List.pairwise_cons.2 ⟨?_, h.1⟩, ?_⟩
        · intro d hd
          rcases List.mem_cons.1 hd with rfl | hd
          · exact hx
          · exact Nat.lt_trans hx (hp.1 d hd)
        · intro d hd
          rcases List.mem_cons.1 hd with rfl | hd
          · exact hv
          · exact h.2 d hd
    · split
      · rename_i hx
        split
        · exact Memory.wf_tail h
        · rename_i hv
          refine ⟨List.pairwise_cons.2 ⟨?_, hp.2⟩, ?_⟩
          · intro d hd
            have := hp.1 d hd
            simp only at this ⊢
            omega
          · intro d hd
            rcases List.mem_cons.1 hd with rfl | hd
            · exact hv
            · exact h.2 d (List.mem_cons_of_mem _ hd)
      · rename_i h1 h2
        have ih' := ih (Memory.wf_tail h)
        refine ⟨List.pairwise_cons.2 ⟨?_, ih'.1⟩, ?_⟩
        · intro d hd
          rcases Memory.mem_write hd with hd | ⟨rfl, _⟩
          · exact hp.1 d hd
          · simp only
            omega
        · intro d hd
          rcases List.mem_cons.1 hd with rfl | hd
          · exact h.2 _ List.mem_cons_self
          · exact ih'.2 d hd

/-- A read after a write: the byte written at its address, and the byte of before at every other. -/
theorem Memory.read_write {m : Memory} (h : Memory.wf m) (x y : Nat) (v : Byte) :
    (m.write x v).read y = if y = x then v else m.read y := by
  induction m with
  | nil => by_cases hv : v = 0#8 <;> simp [Memory.write, Memory.read, hv]
  | cons c m ih =>
    obtain ⟨a, b⟩ := c
    have hp := List.pairwise_cons.1 h.1
    simp only [Memory.write]
    split
    · rename_i hx
      split
      · rename_i hv
        split
        · rename_i hy
          rw [hv]
          apply Memory.read_below
          intro d hd
          rcases List.mem_cons.1 hd with rfl | hd
          · simp only; omega
          · have := hp.1 d hd
            simp only at this ⊢
            omega
        · rfl
      · by_cases hy : y = x <;> simp [Memory.read, hy]
    · split
      · rename_i hx
        subst hx
        split
        · rename_i hv
          split
          · rename_i hy
            subst hy
            rw [hv]
            exact Memory.read_below fun d hd => hp.1 d hd
          · rename_i hy
            simp [Memory.read, hy]
        · by_cases hy : y = x <;> simp [Memory.read, hy]
      · rename_i h1 h2
        simp only [Memory.read]
        by_cases hy : y = a
        · subst hy
          rw [if_pos rfl, if_neg (fun hc => h2 hc.symm), if_pos rfl]
        · rw [if_neg hy, ih (Memory.wf_tail h), if_neg hy]

/-- Consecutive writes keep the canonical form. -/
theorem Memory.wf_writeBytes {m : Memory} (h : Memory.wf m) (base : Nat) (bs : List Byte) :
    Memory.wf (m.writeBytes base bs) := by
  induction bs generalizing m base with
  | nil => exact h
  | cons b bs ih => exact ih (Memory.wf_write h base b) (base + 1)

/-- A read after consecutive writes. -/
theorem Memory.read_writeBytes {m : Memory} (h : Memory.wf m) (base y : Nat) (bs : List Byte) :
    (m.writeBytes base bs).read y = if base ≤ y ∧ y < base + bs.length then bs.getD (y - base) 0 else m.read y := by
  induction bs generalizing m base with
  | nil =>
    rw [if_neg (by simp)]
    rfl
  | cons b bs ih =>
    simp only [Memory.writeBytes]
    rw [ih (Memory.wf_write h base b), Memory.read_write h]
    by_cases h1 : y = base
    · subst h1
      rw [if_neg (by omega), if_pos rfl, if_pos (by simp)]
      simp
    · rw [if_neg h1]
      by_cases h2 : base + 1 ≤ y ∧ y < base + 1 + bs.length
      · rw [if_pos h2, if_pos (by simp only [List.length_cons]; omega)]
        obtain ⟨k, rfl⟩ : ∃ k, y = base + 1 + k := ⟨y - base - 1, by omega⟩
        have e1 : base + 1 + k - (base + 1) = k := by omega
        have e2 : base + 1 + k - base = k + 1 := by omega
        rw [e1, e2]
        simp
      · rw [if_neg h2, if_neg (by simp only [List.length_cons]; omega)]

/-- A byte outside consecutive writes reads as before. -/
theorem Memory.read_writeBytes_outside {m : Memory} (h : Memory.wf m) {base y : Nat} {bs : List Byte}
    (hy : y < base ∨ base + bs.length ≤ y) : (m.writeBytes base bs).read y = m.read y := by
  rw [Memory.read_writeBytes h, if_neg (by omega)]

/-- Clearing bytes keeps the canonical form. -/
theorem Memory.wf_clearWhere {m : Memory} (h : Memory.wf m) (p : Nat → Bool) : Memory.wf (m.clearWhere p) :=
  ⟨h.1.sublist (List.filter_sublist ..), fun c hc => h.2 c (List.mem_of_mem_filter hc)⟩

/-- A read after bytes are cleared. -/
theorem Memory.read_clearWhere (m : Memory) (p : Nat → Bool) (y : Nat) :
    (m.clearWhere p).read y = if p y then 0 else m.read y := by
  induction m with
  | nil => simp [Memory.clearWhere, Memory.read]
  | cons c m ih =>
    obtain ⟨a, b⟩ := c
    simp only [Memory.clearWhere] at ih ⊢
    by_cases hp : p a
    · rw [List.filter_cons_of_neg (by simp [hp]), ih]
      by_cases hy : y = a
      · subst hy; simp [hp]
      · simp [Memory.read, hy]
    · rw [List.filter_cons_of_pos (by simp [hp])]
      simp only [Memory.read]
      rw [ih]
      by_cases hy : y = a
      · subst hy; simp [hp]
      · simp [hy]

end Sys2Proof.Machine
end

