-- ==== Sys2Proof/Laws/State.lean ====
section
/-! SUPPORT. The frame of every state update: the parts of the state it leaves as they were, and the part
it writes. -/

namespace Sys2Proof.Machine

/-- Setting attention bits changes the exchange memory controller alone. -/
@[simp] theorem State.setAttn_keeps (s : State) (bits : BitVec 5) :
    (s.setAttn bits).pending = s.pending ∧
      (s.setAttn bits).lineTime = s.lineTime ∧
      (s.setAttn bits).cards = s.cards ∧
      (s.setAttn bits).tables = s.tables ∧
      (s.setAttn bits).tracker = s.tracker ∧
      (s.setAttn bits).verifier = s.verifier ∧
      (s.setAttn bits).sequencer = s.sequencer ∧
      (s.setAttn bits).coverage = s.coverage ∧
      (s.setAttn bits).cure = s.cure ∧
      (s.setAttn bits).holds = s.holds ∧
      (s.setAttn bits).line = s.line ∧
      (s.setAttn bits).ports = s.ports ∧
      (s.setAttn bits).start = s.start ∧
      (s.setAttn bits).freeCount = s.freeCount := by
  refine ⟨rfl, rfl, rfl, rfl, rfl, rfl, rfl, rfl, rfl, rfl, rfl, rfl, rfl, rfl⟩

/-- Issuing a frame changes the ports alone. -/
@[simp] theorem State.send_keeps (s : State) (m : Message) :
    (s.send m).pending = s.pending ∧
      (s.send m).lineTime = s.lineTime ∧
      (s.send m).exchange = s.exchange ∧
      (s.send m).cards = s.cards ∧
      (s.send m).tables = s.tables ∧
      (s.send m).tracker = s.tracker ∧
      (s.send m).verifier = s.verifier ∧
      (s.send m).sequencer = s.sequencer ∧
      (s.send m).coverage = s.coverage ∧
      (s.send m).cure = s.cure ∧
      (s.send m).holds = s.holds ∧
      (s.send m).line = s.line ∧
      (s.send m).start = s.start ∧
      (s.send m).freeCount = s.freeCount := by
  refine ⟨rfl, rfl, rfl, rfl, rfl, rfl, rfl, rfl, rfl, rfl, rfl, rfl, rfl, rfl⟩

/-- Writing a record changes the Board Tracker alone. -/
@[simp] theorem State.setRecord_keeps (s : State) (t : Tag) (r : BoardRecord) :
    (s.setRecord t r).pending = s.pending ∧
      (s.setRecord t r).lineTime = s.lineTime ∧
      (s.setRecord t r).exchange = s.exchange ∧
      (s.setRecord t r).cards = s.cards ∧
      (s.setRecord t r).tables = s.tables ∧
      (s.setRecord t r).verifier = s.verifier ∧
      (s.setRecord t r).sequencer = s.sequencer ∧
      (s.setRecord t r).coverage = s.coverage ∧
      (s.setRecord t r).cure = s.cure ∧
      (s.setRecord t r).holds = s.holds ∧
      (s.setRecord t r).line = s.line ∧
      (s.setRecord t r).ports = s.ports ∧
      (s.setRecord t r).start = s.start ∧
      (s.setRecord t r).freeCount = s.freeCount := by
  refine ⟨rfl, rfl, rfl, rfl, rfl, rfl, rfl, rfl, rfl, rfl, rfl, rfl, rfl, rfl⟩

/-- Changing a record changes the Board Tracker alone. -/
@[simp] theorem State.modifyRecord_keeps (s : State) (t : Tag) (f : BoardRecord → BoardRecord) :
    (s.modifyRecord t f).pending = s.pending ∧
      (s.modifyRecord t f).lineTime = s.lineTime ∧
      (s.modifyRecord t f).exchange = s.exchange ∧
      (s.modifyRecord t f).cards = s.cards ∧
      (s.modifyRecord t f).tables = s.tables ∧
      (s.modifyRecord t f).verifier = s.verifier ∧
      (s.modifyRecord t f).sequencer = s.sequencer ∧
      (s.modifyRecord t f).coverage = s.coverage ∧
      (s.modifyRecord t f).cure = s.cure ∧
      (s.modifyRecord t f).holds = s.holds ∧
      (s.modifyRecord t f).line = s.line ∧
      (s.modifyRecord t f).ports = s.ports ∧
      (s.modifyRecord t f).start = s.start ∧
      (s.modifyRecord t f).freeCount = s.freeCount := by
  refine ⟨rfl, rfl, rfl, rfl, rfl, rfl, rfl, rfl, rfl, rfl, rfl, rfl, rfl, rfl⟩

/-- A Board Tracker change. -/
@[simp] theorem State.mapTracker_keeps (s : State) (f : Tracker → Tracker) :
    (s.mapTracker f).pending = s.pending ∧
      (s.mapTracker f).lineTime = s.lineTime ∧
      (s.mapTracker f).exchange = s.exchange ∧
      (s.mapTracker f).cards = s.cards ∧
      (s.mapTracker f).tables = s.tables ∧
      (s.mapTracker f).verifier = s.verifier ∧
      (s.mapTracker f).sequencer = s.sequencer ∧
      (s.mapTracker f).coverage = s.coverage ∧
      (s.mapTracker f).cure = s.cure ∧
      (s.mapTracker f).holds = s.holds ∧
      (s.mapTracker f).line = s.line ∧
      (s.mapTracker f).ports = s.ports ∧
      (s.mapTracker f).start = s.start ∧
      (s.mapTracker f).freeCount = s.freeCount := by
  refine ⟨rfl, rfl, rfl, rfl, rfl, rfl, rfl, rfl, rfl, rfl, rfl, rfl, rfl, rfl⟩

/-- A frame table write changes the Coverage Unit alone. -/
@[simp] theorem State.setFrame_keeps (s : State) (f : FrameId) (e : FrameEntry) :
    (s.setFrame f e).pending = s.pending ∧
      (s.setFrame f e).lineTime = s.lineTime ∧
      (s.setFrame f e).exchange = s.exchange ∧
      (s.setFrame f e).cards = s.cards ∧
      (s.setFrame f e).tables = s.tables ∧
      (s.setFrame f e).tracker = s.tracker ∧
      (s.setFrame f e).verifier = s.verifier ∧
      (s.setFrame f e).sequencer = s.sequencer ∧
      (s.setFrame f e).cure = s.cure ∧
      (s.setFrame f e).holds = s.holds ∧
      (s.setFrame f e).line = s.line ∧
      (s.setFrame f e).ports = s.ports ∧
      (s.setFrame f e).start = s.start ∧
      (s.setFrame f e).freeCount = s.freeCount := by
  refine ⟨rfl, rfl, rfl, rfl, rfl, rfl, rfl, rfl, rfl, rfl, rfl, rfl, rfl, rfl⟩

/-- A directory write. -/
@[simp] theorem State.setEntry_keeps (s : State) (n : CardId) (e : DirectoryEntry) :
    (s.setEntry n e).pending = s.pending ∧
      (s.setEntry n e).lineTime = s.lineTime ∧
      (s.setEntry n e).cards = s.cards ∧
      (s.setEntry n e).tables = s.tables ∧
      (s.setEntry n e).tracker = s.tracker ∧
      (s.setEntry n e).verifier = s.verifier ∧
      (s.setEntry n e).sequencer = s.sequencer ∧
      (s.setEntry n e).coverage = s.coverage ∧
      (s.setEntry n e).cure = s.cure ∧
      (s.setEntry n e).holds = s.holds ∧
      (s.setEntry n e).line = s.line ∧
      (s.setEntry n e).ports = s.ports ∧
      (s.setEntry n e).start = s.start ∧
      (s.setEntry n e).freeCount = s.freeCount := by
  refine ⟨rfl, rfl, rfl, rfl, rfl, rfl, rfl, rfl, rfl, rfl, rfl, rfl, rfl, rfl⟩

/-- A write of exchange memory. -/
@[simp] theorem State.writeMem_keeps (s : State) (base : Nat) (bs : List Byte) :
    (s.writeMem base bs).pending = s.pending ∧
      (s.writeMem base bs).lineTime = s.lineTime ∧
      (s.writeMem base bs).cards = s.cards ∧
      (s.writeMem base bs).tables = s.tables ∧
      (s.writeMem base bs).tracker = s.tracker ∧
      (s.writeMem base bs).verifier = s.verifier ∧
      (s.writeMem base bs).sequencer = s.sequencer ∧
      (s.writeMem base bs).coverage = s.coverage ∧
      (s.writeMem base bs).cure = s.cure ∧
      (s.writeMem base bs).holds = s.holds ∧
      (s.writeMem base bs).line = s.line ∧
      (s.writeMem base bs).ports = s.ports ∧
      (s.writeMem base bs).start = s.start ∧
      (s.writeMem base bs).freeCount = s.freeCount := by
  refine ⟨rfl, rfl, rfl, rfl, rfl, rfl, rfl, rfl, rfl, rfl, rfl, rfl, rfl, rfl⟩

/-- Zeroing cells. -/
@[simp] theorem State.zeroCells_keeps (s : State) (f : FrameId) (p : Nat × Nat → Bool) :
    (s.zeroCells f p).pending = s.pending ∧
      (s.zeroCells f p).lineTime = s.lineTime ∧
      (s.zeroCells f p).cards = s.cards ∧
      (s.zeroCells f p).tables = s.tables ∧
      (s.zeroCells f p).tracker = s.tracker ∧
      (s.zeroCells f p).verifier = s.verifier ∧
      (s.zeroCells f p).sequencer = s.sequencer ∧
      (s.zeroCells f p).coverage = s.coverage ∧
      (s.zeroCells f p).cure = s.cure ∧
      (s.zeroCells f p).holds = s.holds ∧
      (s.zeroCells f p).line = s.line ∧
      (s.zeroCells f p).ports = s.ports ∧
      (s.zeroCells f p).start = s.start ∧
      (s.zeroCells f p).freeCount = s.freeCount := by
  refine ⟨rfl, rfl, rfl, rfl, rfl, rfl, rfl, rfl, rfl, rfl, rfl, rfl, rfl, rfl⟩

/-- A Spray Sequencer change. -/
@[simp] theorem State.mapSequencer_keeps (s : State) (f : Sequencer → Sequencer) :
    (s.mapSequencer f).pending = s.pending ∧
      (s.mapSequencer f).lineTime = s.lineTime ∧
      (s.mapSequencer f).exchange = s.exchange ∧
      (s.mapSequencer f).cards = s.cards ∧
      (s.mapSequencer f).tables = s.tables ∧
      (s.mapSequencer f).tracker = s.tracker ∧
      (s.mapSequencer f).verifier = s.verifier ∧
      (s.mapSequencer f).coverage = s.coverage ∧
      (s.mapSequencer f).cure = s.cure ∧
      (s.mapSequencer f).holds = s.holds ∧
      (s.mapSequencer f).line = s.line ∧
      (s.mapSequencer f).ports = s.ports ∧
      (s.mapSequencer f).start = s.start ∧
      (s.mapSequencer f).freeCount = s.freeCount := by
  refine ⟨rfl, rfl, rfl, rfl, rfl, rfl, rfl, rfl, rfl, rfl, rfl, rfl, rfl, rfl⟩

/-- A monitor change. -/
@[simp] theorem State.mapMonitor_keeps (s : State) (a : ApplicatorId) (f : Monitor → Monitor) :
    (s.mapMonitor a f).pending = s.pending ∧
      (s.mapMonitor a f).lineTime = s.lineTime ∧
      (s.mapMonitor a f).exchange = s.exchange ∧
      (s.mapMonitor a f).cards = s.cards ∧
      (s.mapMonitor a f).tables = s.tables ∧
      (s.mapMonitor a f).tracker = s.tracker ∧
      (s.mapMonitor a f).verifier = s.verifier ∧
      (s.mapMonitor a f).coverage = s.coverage ∧
      (s.mapMonitor a f).cure = s.cure ∧
      (s.mapMonitor a f).holds = s.holds ∧
      (s.mapMonitor a f).line = s.line ∧
      (s.mapMonitor a f).ports = s.ports ∧
      (s.mapMonitor a f).start = s.start ∧
      (s.mapMonitor a f).freeCount = s.freeCount := by
  refine ⟨rfl, rfl, rfl, rfl, rfl, rfl, rfl, rfl, rfl, rfl, rfl, rfl, rfl, rfl⟩

/-- A Cure Tracker change. -/
@[simp] theorem State.mapCure_keeps (s : State) (f : Cure → Cure) :
    (s.mapCure f).pending = s.pending ∧
      (s.mapCure f).lineTime = s.lineTime ∧
      (s.mapCure f).exchange = s.exchange ∧
      (s.mapCure f).cards = s.cards ∧
      (s.mapCure f).tables = s.tables ∧
      (s.mapCure f).tracker = s.tracker ∧
      (s.mapCure f).verifier = s.verifier ∧
      (s.mapCure f).sequencer = s.sequencer ∧
      (s.mapCure f).coverage = s.coverage ∧
      (s.mapCure f).holds = s.holds ∧
      (s.mapCure f).line = s.line ∧
      (s.mapCure f).ports = s.ports ∧
      (s.mapCure f).start = s.start ∧
      (s.mapCure f).freeCount = s.freeCount := by
  refine ⟨rfl, rfl, rfl, rfl, rfl, rfl, rfl, rfl, rfl, rfl, rfl, rfl, rfl, rfl⟩

/-- A Table Store change. -/
@[simp] theorem State.mapTables_keeps (s : State) (f : Tables → Tables) :
    (s.mapTables f).pending = s.pending ∧
      (s.mapTables f).lineTime = s.lineTime ∧
      (s.mapTables f).exchange = s.exchange ∧
      (s.mapTables f).cards = s.cards ∧
      (s.mapTables f).tracker = s.tracker ∧
      (s.mapTables f).verifier = s.verifier ∧
      (s.mapTables f).sequencer = s.sequencer ∧
      (s.mapTables f).coverage = s.coverage ∧
      (s.mapTables f).cure = s.cure ∧
      (s.mapTables f).holds = s.holds ∧
      (s.mapTables f).line = s.line ∧
      (s.mapTables f).ports = s.ports ∧
      (s.mapTables f).start = s.start ∧
      (s.mapTables f).freeCount = s.freeCount := by
  refine ⟨rfl, rfl, rfl, rfl, rfl, rfl, rfl, rfl, rfl, rfl, rfl, rfl, rfl, rfl⟩

/-- Joining the hold order. -/
@[simp] theorem State.joinHolds_keeps (s : State) (t : Tag) :
    (s.joinHolds t).pending = s.pending ∧
      (s.joinHolds t).lineTime = s.lineTime ∧
      (s.joinHolds t).exchange = s.exchange ∧
      (s.joinHolds t).cards = s.cards ∧
      (s.joinHolds t).tables = s.tables ∧
      (s.joinHolds t).tracker = s.tracker ∧
      (s.joinHolds t).verifier = s.verifier ∧
      (s.joinHolds t).sequencer = s.sequencer ∧
      (s.joinHolds t).coverage = s.coverage ∧
      (s.joinHolds t).cure = s.cure ∧
      (s.joinHolds t).line = s.line ∧
      (s.joinHolds t).ports = s.ports ∧
      (s.joinHolds t).start = s.start ∧
      (s.joinHolds t).freeCount = s.freeCount := by
  refine ⟨rfl, rfl, rfl, rfl, rfl, rfl, rfl, rfl, rfl, rfl, rfl, rfl, rfl, rfl⟩

/-- Leaving the hold order. -/
@[simp] theorem State.leaveHolds_keeps (s : State) (t : Tag) :
    (s.leaveHolds t).pending = s.pending ∧
      (s.leaveHolds t).lineTime = s.lineTime ∧
      (s.leaveHolds t).exchange = s.exchange ∧
      (s.leaveHolds t).cards = s.cards ∧
      (s.leaveHolds t).tables = s.tables ∧
      (s.leaveHolds t).tracker = s.tracker ∧
      (s.leaveHolds t).verifier = s.verifier ∧
      (s.leaveHolds t).sequencer = s.sequencer ∧
      (s.leaveHolds t).coverage = s.coverage ∧
      (s.leaveHolds t).cure = s.cure ∧
      (s.leaveHolds t).line = s.line ∧
      (s.leaveHolds t).ports = s.ports ∧
      (s.leaveHolds t).start = s.start ∧
      (s.leaveHolds t).freeCount = s.freeCount := by
  refine ⟨rfl, rfl, rfl, rfl, rfl, rfl, rfl, rfl, rfl, rfl, rfl, rfl, rfl, rfl⟩

/-- A receiver's framing state. -/
@[simp] theorem State.setReceiver_keeps (s : State) (p : Port) (r : Receiver) :
    (s.setReceiver p r).pending = s.pending ∧
      (s.setReceiver p r).lineTime = s.lineTime ∧
      (s.setReceiver p r).exchange = s.exchange ∧
      (s.setReceiver p r).cards = s.cards ∧
      (s.setReceiver p r).tables = s.tables ∧
      (s.setReceiver p r).tracker = s.tracker ∧
      (s.setReceiver p r).verifier = s.verifier ∧
      (s.setReceiver p r).sequencer = s.sequencer ∧
      (s.setReceiver p r).coverage = s.coverage ∧
      (s.setReceiver p r).cure = s.cure ∧
      (s.setReceiver p r).holds = s.holds ∧
      (s.setReceiver p r).line = s.line ∧
      (s.setReceiver p r).start = s.start ∧
      (s.setReceiver p r).freeCount = s.freeCount := by
  refine ⟨rfl, rfl, rfl, rfl, rfl, rfl, rfl, rfl, rfl, rfl, rfl, rfl, rfl, rfl⟩

/-- Flash-off items. -/
@[simp] theorem State.setFlash_keeps (s : State) (t : Tag) (i : Option FlashItems) :
    (s.setFlash t i).pending = s.pending ∧
      (s.setFlash t i).lineTime = s.lineTime ∧
      (s.setFlash t i).exchange = s.exchange ∧
      (s.setFlash t i).cards = s.cards ∧
      (s.setFlash t i).tables = s.tables ∧
      (s.setFlash t i).verifier = s.verifier ∧
      (s.setFlash t i).sequencer = s.sequencer ∧
      (s.setFlash t i).coverage = s.coverage ∧
      (s.setFlash t i).cure = s.cure ∧
      (s.setFlash t i).holds = s.holds ∧
      (s.setFlash t i).line = s.line ∧
      (s.setFlash t i).ports = s.ports ∧
      (s.setFlash t i).start = s.start ∧
      (s.setFlash t i).freeCount = s.freeCount := by
  refine ⟨rfl, rfl, rfl, rfl, rfl, rfl, rfl, rfl, rfl, rfl, rfl, rfl, rfl, rfl⟩

/-- The end of a transfer, before its completion. -/
@[simp] theorem State.endTransfer_keeps (s : State) (r : Route) :
    (s.endTransfer r).pending = s.pending ∧
      (s.endTransfer r).lineTime = s.lineTime ∧
      (s.endTransfer r).exchange = s.exchange ∧
      (s.endTransfer r).cards = s.cards ∧
      (s.endTransfer r).tables = s.tables ∧
      (s.endTransfer r).verifier = s.verifier ∧
      (s.endTransfer r).sequencer = s.sequencer ∧
      (s.endTransfer r).coverage = s.coverage ∧
      (s.endTransfer r).cure = s.cure ∧
      (s.endTransfer r).holds = s.holds ∧
      (s.endTransfer r).line = s.line ∧
      (s.endTransfer r).ports = s.ports ∧
      (s.endTransfer r).start = s.start ∧
      (s.endTransfer r).freeCount = s.freeCount := by
  refine ⟨rfl, rfl, rfl, rfl, rfl, rfl, rfl, rfl, rfl, rfl, rfl, rfl, rfl, rfl⟩

/-- Retaining the ACTIVE frame. -/
@[simp] theorem State.retainActive_keeps (s : State) :
    (s.retainActive).pending = s.pending ∧
      (s.retainActive).lineTime = s.lineTime ∧
      (s.retainActive).exchange = s.exchange ∧
      (s.retainActive).cards = s.cards ∧
      (s.retainActive).tables = s.tables ∧
      (s.retainActive).tracker = s.tracker ∧
      (s.retainActive).verifier = s.verifier ∧
      (s.retainActive).sequencer = s.sequencer ∧
      (s.retainActive).cure = s.cure ∧
      (s.retainActive).holds = s.holds ∧
      (s.retainActive).line = s.line ∧
      (s.retainActive).ports = s.ports ∧
      (s.retainActive).start = s.start ∧
      (s.retainActive).freeCount = s.freeCount := by
  refine ⟨rfl, rfl, rfl, rfl, rfl, rfl, rfl, rfl, rfl, rfl, rfl, rfl, rfl, rfl⟩

/-! ### What the updates write -/

@[simp] theorem State.mapTracker_tracker (s : State) (f : Tracker → Tracker) :
    (s.mapTracker f).tracker = f s.tracker := rfl

@[simp] theorem State.mapSequencer_sequencer (s : State) (f : Sequencer → Sequencer) :
    (s.mapSequencer f).sequencer = f s.sequencer := rfl

@[simp] theorem State.mapCure_cure (s : State) (f : Cure → Cure) : (s.mapCure f).cure = f s.cure := rfl

@[simp] theorem State.mapTables_tables (s : State) (f : Tables → Tables) :
    (s.mapTables f).tables = f s.tables := rfl

@[simp] theorem State.setRecord_tracker (s : State) (t : Tag) (r : BoardRecord) :
    (s.setRecord t r).tracker = { s.tracker with boards := s.tracker.boards.set t r } := rfl

@[simp] theorem State.modifyRecord_tracker (s : State) (t : Tag) (f : BoardRecord → BoardRecord) :
    (s.modifyRecord t f).tracker = { s.tracker with boards := s.tracker.boards.set t (f (s.record t)) } := rfl

@[simp] theorem State.setFrame_coverage (s : State) (f : FrameId) (e : FrameEntry) :
    (s.setFrame f e).coverage = ⟨s.coverage.frames.set f e⟩ := rfl

@[simp] theorem State.setEntry_exchange (s : State) (n : CardId) (e : DirectoryEntry) :
    (s.setEntry n e).exchange = { s.exchange with directory := s.exchange.directory.set n e } := rfl

@[simp] theorem State.writeMem_exchange (s : State) (base : Nat) (bs : List Byte) :
    (s.writeMem base bs).exchange = { s.exchange with mem := s.exchange.mem.writeBytes base bs } := rfl

@[simp] theorem State.zeroCells_exchange (s : State) (f : FrameId) (p : Nat × Nat → Bool) :
    (s.zeroCells f p).exchange = { s.exchange with mem := s.exchange.mem.clearWhere (inFrame f p) } := rfl

@[simp] theorem State.setAttn_exchange (s : State) (bits : BitVec 5) :
    (s.setAttn bits).exchange = { s.exchange with attn := s.exchange.attn ||| bits } := rfl

@[simp] theorem State.send_ports (s : State) (m : Message) :
    (s.send m).ports = s.ports.set m.port ((s.ports.get m.port).issue m) := rfl

/-- The record of a tag after a record is changed. -/
theorem State.record_modifyRecord (s : State) (t u : Tag) (f : BoardRecord → BoardRecord) :
    (s.modifyRecord t f).record u = if u = t then f (s.record t) else s.record u := by
  simp only [State.record, State.modifyRecord_tracker]
  by_cases h : u = t
  · subst h; simp
  · have : (t : Nat) ≠ u := fun hc => h (Fin.ext hc.symm)
    simp [h, Vector.getElem_set_ne _ _ this]

/-- The entry of a frame after a frame table write. -/
theorem State.frames_setFrame (s : State) (f g : FrameId) (e : FrameEntry) :
    (s.setFrame f e).coverage.frames[g] = if g = f then e else s.coverage.frames[g] := by
  simp only [State.setFrame_coverage]
  by_cases h : g = f
  · subst h; simp
  · have : (f : Nat) ≠ g := fun hc => h (Fin.ext hc.symm)
    simp [h, Vector.getElem_set_ne _ _ this]

@[simp] theorem Ports.get_set (p : Ports) (port other : Port) (v : PortState) :
    (p.set port v).get other = if other = port then v else p.get other := by
  cases port <;> cases other <;> rfl

@[simp] theorem Tracker.route_setRoute (k : Tracker) (r q : Route) (v : RouteState) :
    (k.setRoute r v).route q = if q = r then v else k.route q := by
  cases r <;> cases q <;> rfl

@[simp] theorem Tracker.source_setRoute (k : Tracker) (r q : Route) (v : RouteState) :
    (k.setRoute r v).source q = k.source q := by
  cases r <;> cases q <;> rfl

@[simp] theorem Tracker.route_setSource (k : Tracker) (r q : Route) (l : List Place) :
    (k.setSource r l).route q = k.route q := by
  cases r <;> cases q <;> rfl

end Sys2Proof.Machine
end

