-- ==== Sys2Proof/Laws/Ops.lean ====
section
/-! SUPPORT. The frame of every shared operation: the parts of the state it leaves as they were. -/

namespace Sys2Proof.Machine

/-- What every step of a fold keeps, the fold keeps. -/
theorem foldl_keeps {σ α β : Type} (g : σ → β) (f : σ → α → σ) (h : ∀ s x, g (f s x) = g s) (s : σ)
    (l : List α) : g (l.foldl f s) = g s := by
  induction l generalizing s with
  | nil => rfl
  | cons x l ih => rw [List.foldl_cons, ih, h]

/-- An append changes the exchange memory controller alone (R39). -/
@[simp] theorem State.append_keeps (s : State) (e : Activity) :
    (s.append e).pending = s.pending ∧
      (s.append e).lineTime = s.lineTime ∧
      (s.append e).cards = s.cards ∧
      (s.append e).tables = s.tables ∧
      (s.append e).tracker = s.tracker ∧
      (s.append e).verifier = s.verifier ∧
      (s.append e).sequencer = s.sequencer ∧
      (s.append e).coverage = s.coverage ∧
      (s.append e).cure = s.cure ∧
      (s.append e).holds = s.holds ∧
      (s.append e).line = s.line ∧
      (s.append e).ports = s.ports ∧
      (s.append e).start = s.start ∧
      (s.append e).freeCount = s.freeCount := by
  unfold State.append; split <;> simp

/-- A slot change and its entry. -/
@[simp] theorem State.setSlot_keeps (s : State) (n : SlotId) (v : SlotState) :
    (s.setSlot n v).pending = s.pending ∧
      (s.setSlot n v).lineTime = s.lineTime ∧
      (s.setSlot n v).cards = s.cards ∧
      (s.setSlot n v).tables = s.tables ∧
      (s.setSlot n v).tracker = s.tracker ∧
      (s.setSlot n v).verifier = s.verifier ∧
      (s.setSlot n v).sequencer = s.sequencer ∧
      (s.setSlot n v).coverage = s.coverage ∧
      (s.setSlot n v).cure = s.cure ∧
      (s.setSlot n v).line = s.line ∧
      (s.setSlot n v).ports = s.ports ∧
      (s.setSlot n v).start = s.start ∧
      (s.setSlot n v).freeCount = s.freeCount := by
  simp [State.setSlot]

/-- A cell state change and its entry. -/
@[simp] theorem State.setCell_keeps (s : State) (v : CellState) (c : Option StopCause) :
    (s.setCell v c).pending = s.pending ∧
      (s.setCell v c).lineTime = s.lineTime ∧
      (s.setCell v c).cards = s.cards ∧
      (s.setCell v c).tables = s.tables ∧
      (s.setCell v c).tracker = s.tracker ∧
      (s.setCell v c).verifier = s.verifier ∧
      (s.setCell v c).coverage = s.coverage ∧
      (s.setCell v c).cure = s.cure ∧
      (s.setCell v c).holds = s.holds ∧
      (s.setCell v c).line = s.line ∧
      (s.setCell v c).ports = s.ports ∧
      (s.setCell v c).start = s.start ∧
      (s.setCell v c).freeCount = s.freeCount := by
  simp [State.setCell]

/-- The loader-ready level and its message. -/
@[simp] theorem State.driveLoader_keeps (s : State) :
    (s.driveLoader).pending = s.pending ∧
      (s.driveLoader).lineTime = s.lineTime ∧
      (s.driveLoader).exchange = s.exchange ∧
      (s.driveLoader).cards = s.cards ∧
      (s.driveLoader).tables = s.tables ∧
      (s.driveLoader).verifier = s.verifier ∧
      (s.driveLoader).sequencer = s.sequencer ∧
      (s.driveLoader).coverage = s.coverage ∧
      (s.driveLoader).cure = s.cure ∧
      (s.driveLoader).holds = s.holds ∧
      (s.driveLoader).line = s.line ∧
      (s.driveLoader).start = s.start ∧
      (s.driveLoader).freeCount = s.freeCount := by
  unfold State.driveLoader; split <;> simp

/-- The gate and its message. -/
@[simp] theorem State.driveGate_keeps (s : State) :
    (s.driveGate).pending = s.pending ∧
      (s.driveGate).lineTime = s.lineTime ∧
      (s.driveGate).exchange = s.exchange ∧
      (s.driveGate).cards = s.cards ∧
      (s.driveGate).tables = s.tables ∧
      (s.driveGate).tracker = s.tracker ∧
      (s.driveGate).verifier = s.verifier ∧
      (s.driveGate).sequencer = s.sequencer ∧
      (s.driveGate).coverage = s.coverage ∧
      (s.driveGate).holds = s.holds ∧
      (s.driveGate).line = s.line ∧
      (s.driveGate).start = s.start ∧
      (s.driveGate).freeCount = s.freeCount := by
  unfold State.driveGate; split <;> simp

/-- A frame taken. -/
@[simp] theorem State.takeFrame_keeps (s : State) (f : FrameId) (t : Tag) :
    (s.takeFrame f t).pending = s.pending ∧
      (s.takeFrame f t).lineTime = s.lineTime ∧
      (s.takeFrame f t).cards = s.cards ∧
      (s.takeFrame f t).tables = s.tables ∧
      (s.takeFrame f t).verifier = s.verifier ∧
      (s.takeFrame f t).sequencer = s.sequencer ∧
      (s.takeFrame f t).cure = s.cure ∧
      (s.takeFrame f t).holds = s.holds ∧
      (s.takeFrame f t).line = s.line ∧
      (s.takeFrame f t).ports = s.ports ∧
      (s.takeFrame f t).start = s.start ∧
      (s.takeFrame f t).freeCount = s.freeCount := by
  simp [State.takeFrame]

/-- A frame made ACTIVE. -/
@[simp] theorem State.allocate_keeps (s : State) (t : Tag) :
    (s.allocate t).pending = s.pending ∧
      (s.allocate t).lineTime = s.lineTime ∧
      (s.allocate t).cards = s.cards ∧
      (s.allocate t).tables = s.tables ∧
      (s.allocate t).verifier = s.verifier ∧
      (s.allocate t).sequencer = s.sequencer ∧
      (s.allocate t).cure = s.cure ∧
      (s.allocate t).holds = s.holds ∧
      (s.allocate t).line = s.line ∧
      (s.allocate t).ports = s.ports ∧
      (s.allocate t).start = s.start ∧
      (s.allocate t).freeCount = s.freeCount := by
  unfold State.allocate; (repeat' split) <;> simp

/-- A reserved frame retained. -/
@[simp] theorem State.retainReserved_keeps (s : State) (t : Tag) :
    (s.retainReserved t).pending = s.pending ∧
      (s.retainReserved t).lineTime = s.lineTime ∧
      (s.retainReserved t).exchange = s.exchange ∧
      (s.retainReserved t).cards = s.cards ∧
      (s.retainReserved t).tables = s.tables ∧
      (s.retainReserved t).tracker = s.tracker ∧
      (s.retainReserved t).verifier = s.verifier ∧
      (s.retainReserved t).sequencer = s.sequencer ∧
      (s.retainReserved t).cure = s.cure ∧
      (s.retainReserved t).holds = s.holds ∧
      (s.retainReserved t).line = s.line ∧
      (s.retainReserved t).ports = s.ports ∧
      (s.retainReserved t).start = s.start ∧
      (s.retainReserved t).freeCount = s.freeCount := by
  unfold State.retainReserved; (repeat' split) <;> simp

/-- An owned frame freed. -/
@[simp] theorem State.freeOwned_keeps (s : State) (t : Tag) :
    (s.freeOwned t).pending = s.pending ∧
      (s.freeOwned t).lineTime = s.lineTime ∧
      (s.freeOwned t).exchange = s.exchange ∧
      (s.freeOwned t).cards = s.cards ∧
      (s.freeOwned t).tables = s.tables ∧
      (s.freeOwned t).tracker = s.tracker ∧
      (s.freeOwned t).verifier = s.verifier ∧
      (s.freeOwned t).sequencer = s.sequencer ∧
      (s.freeOwned t).cure = s.cure ∧
      (s.freeOwned t).holds = s.holds ∧
      (s.freeOwned t).line = s.line ∧
      (s.freeOwned t).ports = s.ports ∧
      (s.freeOwned t).start = s.start ∧
      (s.freeOwned t).freeCount = s.freeCount := by
  unfold State.freeOwned; (repeat' split) <;> simp

/-- A deposit writes cells alone (R120). -/
@[simp] theorem State.deposit_keeps (s : State) (t : Tag) (g : Segment) (a : ApplicatorId) (time sum count pre : Nat) :
    (s.deposit t g a time sum count pre).pending = s.pending ∧
      (s.deposit t g a time sum count pre).lineTime = s.lineTime ∧
      (s.deposit t g a time sum count pre).cards = s.cards ∧
      (s.deposit t g a time sum count pre).tables = s.tables ∧
      (s.deposit t g a time sum count pre).tracker = s.tracker ∧
      (s.deposit t g a time sum count pre).verifier = s.verifier ∧
      (s.deposit t g a time sum count pre).sequencer = s.sequencer ∧
      (s.deposit t g a time sum count pre).coverage = s.coverage ∧
      (s.deposit t g a time sum count pre).cure = s.cure ∧
      (s.deposit t g a time sum count pre).holds = s.holds ∧
      (s.deposit t g a time sum count pre).line = s.line ∧
      (s.deposit t g a time sum count pre).ports = s.ports ∧
      (s.deposit t g a time sum count pre).start = s.start ∧
      (s.deposit t g a time sum count pre).freeCount = s.freeCount := by
  unfold State.deposit; split <;> simp

/-- A segment sent. -/
@[simp] theorem State.sendSegment_keeps (s : State) (t : Tag) :
    (s.sendSegment t).pending = s.pending ∧
      (s.sendSegment t).lineTime = s.lineTime ∧
      (s.sendSegment t).exchange = s.exchange ∧
      (s.sendSegment t).cards = s.cards ∧
      (s.sendSegment t).tables = s.tables ∧
      (s.sendSegment t).tracker = s.tracker ∧
      (s.sendSegment t).verifier = s.verifier ∧
      (s.sendSegment t).coverage = s.coverage ∧
      (s.sendSegment t).cure = s.cure ∧
      (s.sendSegment t).holds = s.holds ∧
      (s.sendSegment t).line = s.line ∧
      (s.sendSegment t).start = s.start ∧
      (s.sendSegment t).freeCount = s.freeCount := by
  unfold State.sendSegment; split <;> simp

/-- A path end. -/
@[simp] theorem State.pathEnd_keeps (s : State) (t : Tag) (e : PathEnd) :
    (s.pathEnd t e).pending = s.pending ∧
      (s.pathEnd t e).lineTime = s.lineTime ∧
      (s.pathEnd t e).cards = s.cards ∧
      (s.pathEnd t e).tables = s.tables ∧
      (s.pathEnd t e).verifier = s.verifier ∧
      (s.pathEnd t e).coverage = s.coverage ∧
      (s.pathEnd t e).cure = s.cure ∧
      (s.pathEnd t e).holds = s.holds ∧
      (s.pathEnd t e).line = s.line ∧
      (s.pathEnd t e).ports = s.ports ∧
      (s.pathEnd t e).start = s.start ∧
      (s.pathEnd t e).freeCount = s.freeCount := by
  simp [State.pathEnd]

/-- The pressure check of a held segment. -/
@[simp] theorem State.pressureCheck_keeps (s : State) (t : Tag) (a : ApplicatorId) :
    (s.pressureCheck t a).pending = s.pending ∧
      (s.pressureCheck t a).lineTime = s.lineTime ∧
      (s.pressureCheck t a).cards = s.cards ∧
      (s.pressureCheck t a).tables = s.tables ∧
      (s.pressureCheck t a).tracker = s.tracker ∧
      (s.pressureCheck t a).verifier = s.verifier ∧
      (s.pressureCheck t a).coverage = s.coverage ∧
      (s.pressureCheck t a).cure = s.cure ∧
      (s.pressureCheck t a).holds = s.holds ∧
      (s.pressureCheck t a).line = s.line ∧
      (s.pressureCheck t a).start = s.start ∧
      (s.pressureCheck t a).freeCount = s.freeCount := by
  unfold State.pressureCheck; split <;> simp

/-- A segment fetch. -/
@[simp] theorem State.fetch_keeps (s : State) (t : Tag) :
    (s.fetch t).pending = s.pending ∧
      (s.fetch t).lineTime = s.lineTime ∧
      (s.fetch t).cards = s.cards ∧
      (s.fetch t).tables = s.tables ∧
      (s.fetch t).verifier = s.verifier ∧
      (s.fetch t).coverage = s.coverage ∧
      (s.fetch t).cure = s.cure ∧
      (s.fetch t).holds = s.holds ∧
      (s.fetch t).line = s.line ∧
      (s.fetch t).start = s.start ∧
      (s.fetch t).freeCount = s.freeCount := by
  unfold State.fetch; dsimp only; (repeat' split) <;> simp

/-- A valve closed. -/
@[simp] theorem State.closeValve_keeps (s : State) :
    (s.closeValve).pending = s.pending ∧
      (s.closeValve).lineTime = s.lineTime ∧
      (s.closeValve).exchange = s.exchange ∧
      (s.closeValve).cards = s.cards ∧
      (s.closeValve).tables = s.tables ∧
      (s.closeValve).tracker = s.tracker ∧
      (s.closeValve).verifier = s.verifier ∧
      (s.closeValve).coverage = s.coverage ∧
      (s.closeValve).cure = s.cure ∧
      (s.closeValve).holds = s.holds ∧
      (s.closeValve).line = s.line ∧
      (s.closeValve).start = s.start ∧
      (s.closeValve).freeCount = s.freeCount := by
  unfold State.closeValve; split <;> simp

/-- A held segment discarded. -/
@[simp] theorem State.dropSegment_keeps (s : State) :
    (s.dropSegment).pending = s.pending ∧
      (s.dropSegment).lineTime = s.lineTime ∧
      (s.dropSegment).exchange = s.exchange ∧
      (s.dropSegment).cards = s.cards ∧
      (s.dropSegment).tables = s.tables ∧
      (s.dropSegment).tracker = s.tracker ∧
      (s.dropSegment).verifier = s.verifier ∧
      (s.dropSegment).coverage = s.coverage ∧
      (s.dropSegment).cure = s.cure ∧
      (s.dropSegment).holds = s.holds ∧
      (s.dropSegment).line = s.line ∧
      (s.dropSegment).ports = s.ports ∧
      (s.dropSegment).start = s.start ∧
      (s.dropSegment).freeCount = s.freeCount := by
  unfold State.dropSegment; dsimp only; split <;> simp

/-- An abort. -/
@[simp] theorem State.abort_keeps (s : State) (c : StopCause) (a : Option ApplicatorId) :
    (s.abort c a).pending = s.pending ∧
      (s.abort c a).lineTime = s.lineTime ∧
      (s.abort c a).cards = s.cards ∧
      (s.abort c a).tables = s.tables ∧
      (s.abort c a).verifier = s.verifier ∧
      (s.abort c a).coverage = s.coverage ∧
      (s.abort c a).cure = s.cure ∧
      (s.abort c a).holds = s.holds ∧
      (s.abort c a).line = s.line ∧
      (s.abort c a).start = s.start ∧
      (s.abort c a).freeCount = s.freeCount := by
  unfold State.abort; dsimp only; split <;> simp

/-- An abort of an active cell. -/
@[simp] theorem State.abortActive_keeps (s : State) (c : StopCause) :
    (s.abortActive c).pending = s.pending ∧
      (s.abortActive c).lineTime = s.lineTime ∧
      (s.abortActive c).cards = s.cards ∧
      (s.abortActive c).tables = s.tables ∧
      (s.abortActive c).verifier = s.verifier ∧
      (s.abortActive c).coverage = s.coverage ∧
      (s.abortActive c).cure = s.cure ∧
      (s.abortActive c).holds = s.holds ∧
      (s.abortActive c).line = s.line ∧
      (s.abortActive c).start = s.start ∧
      (s.abortActive c).freeCount = s.freeCount := by
  unfold State.abortActive; split <;> simp

/-- Leaving PAUSED. -/
@[simp] theorem State.leavePaused_keeps (s : State) :
    (s.leavePaused).pending = s.pending ∧
      (s.leavePaused).lineTime = s.lineTime ∧
      (s.leavePaused).cards = s.cards ∧
      (s.leavePaused).tables = s.tables ∧
      (s.leavePaused).verifier = s.verifier ∧
      (s.leavePaused).coverage = s.coverage ∧
      (s.leavePaused).cure = s.cure ∧
      (s.leavePaused).holds = s.holds ∧
      (s.leavePaused).line = s.line ∧
      (s.leavePaused).start = s.start ∧
      (s.leavePaused).freeCount = s.freeCount := by
  unfold State.leavePaused; (repeat' split) <;> simp

/-- The cell's answer to a mode. -/
@[simp] theorem State.cellOnMode_keeps (s : State) :
    (s.cellOnMode).pending = s.pending ∧
      (s.cellOnMode).lineTime = s.lineTime ∧
      (s.cellOnMode).cards = s.cards ∧
      (s.cellOnMode).tables = s.tables ∧
      (s.cellOnMode).verifier = s.verifier ∧
      (s.cellOnMode).coverage = s.coverage ∧
      (s.cellOnMode).cure = s.cure ∧
      (s.cellOnMode).holds = s.holds ∧
      (s.cellOnMode).line = s.line ∧
      (s.cellOnMode).start = s.start ∧
      (s.cellOnMode).freeCount = s.freeCount := by
  unfold State.cellOnMode; (repeat' split) <;> simp

/-- Spray start. -/
@[simp] theorem State.sprayStart_keeps (s : State) (t : Tag) :
    (s.sprayStart t).pending = s.pending ∧
      (s.sprayStart t).lineTime = s.lineTime ∧
      (s.sprayStart t).cards = s.cards ∧
      (s.sprayStart t).tables = s.tables ∧
      (s.sprayStart t).verifier = s.verifier ∧
      (s.sprayStart t).cure = s.cure ∧
      (s.sprayStart t).holds = s.holds ∧
      (s.sprayStart t).line = s.line ∧
      (s.sprayStart t).start = s.start ∧
      (s.sprayStart t).freeCount = s.freeCount := by
  unfold State.sprayStart; dsimp only; (repeat' split) <;> simp

/-- The mode handed to the blocks. -/
@[simp] theorem State.handMode_keeps (s : State) :
    (s.handMode).pending = s.pending ∧
      (s.handMode).lineTime = s.lineTime ∧
      (s.handMode).cards = s.cards ∧
      (s.handMode).tables = s.tables ∧
      (s.handMode).verifier = s.verifier ∧
      (s.handMode).coverage = s.coverage ∧
      (s.handMode).holds = s.holds ∧
      (s.handMode).line = s.line ∧
      (s.handMode).start = s.start ∧
      (s.handMode).freeCount = s.freeCount := by
  simp [State.handMode]

/-- A mode change. -/
@[simp] theorem State.changeMode_keeps (s : State) (m : LineMode) :
    (s.changeMode m).pending = s.pending ∧
      (s.changeMode m).lineTime = s.lineTime ∧
      (s.changeMode m).cards = s.cards ∧
      (s.changeMode m).tables = s.tables ∧
      (s.changeMode m).verifier = s.verifier ∧
      (s.changeMode m).coverage = s.coverage ∧
      (s.changeMode m).holds = s.holds ∧
      (s.changeMode m).start = s.start ∧
      (s.changeMode m).freeCount = s.freeCount := by
  simp [State.changeMode]

/-- The line empty report. -/
@[simp] theorem State.reportEmpty_keeps (s : State) :
    (s.reportEmpty).pending = s.pending ∧
      (s.reportEmpty).lineTime = s.lineTime ∧
      (s.reportEmpty).cards = s.cards ∧
      (s.reportEmpty).tables = s.tables ∧
      (s.reportEmpty).verifier = s.verifier ∧
      (s.reportEmpty).coverage = s.coverage ∧
      (s.reportEmpty).holds = s.holds ∧
      (s.reportEmpty).start = s.start ∧
      (s.reportEmpty).freeCount = s.freeCount := by
  unfold State.reportEmpty; split <;> simp

/-- A fault. -/
@[simp] theorem State.raiseFault_keeps (s : State) (c : FaultCode) (r : Option Route) (t : Option Tag) (n : Nat) :
    (s.raiseFault c r t n).pending = s.pending ∧
      (s.raiseFault c r t n).lineTime = s.lineTime ∧
      (s.raiseFault c r t n).cards = s.cards ∧
      (s.raiseFault c r t n).tables = s.tables ∧
      (s.raiseFault c r t n).verifier = s.verifier ∧
      (s.raiseFault c r t n).coverage = s.coverage ∧
      (s.raiseFault c r t n).holds = s.holds ∧
      (s.raiseFault c r t n).start = s.start ∧
      (s.raiseFault c r t n).freeCount = s.freeCount := by
  unfold State.raiseFault; dsimp only; split <;> simp

/-- A mode request. -/
@[simp] theorem State.requestMode_keeps (s : State) (m : LineMode) :
    (s.requestMode m).pending = s.pending ∧
      (s.requestMode m).lineTime = s.lineTime ∧
      (s.requestMode m).cards = s.cards ∧
      (s.requestMode m).tables = s.tables ∧
      (s.requestMode m).verifier = s.verifier ∧
      (s.requestMode m).coverage = s.coverage ∧
      (s.requestMode m).holds = s.holds ∧
      (s.requestMode m).start = s.start ∧
      (s.requestMode m).freeCount = s.freeCount := by
  unfold State.requestMode; split <;> simp

/-- A verification completed. -/
@[simp] theorem State.completeVerification_keeps (s : State) (t : Tag) (n : Nat) :
    (s.completeVerification t n).pending = s.pending ∧
      (s.completeVerification t n).lineTime = s.lineTime ∧
      (s.completeVerification t n).cards = s.cards ∧
      (s.completeVerification t n).tables = s.tables ∧
      (s.completeVerification t n).sequencer = s.sequencer ∧
      (s.completeVerification t n).coverage = s.coverage ∧
      (s.completeVerification t n).cure = s.cure ∧
      (s.completeVerification t n).holds = s.holds ∧
      (s.completeVerification t n).line = s.line ∧
      (s.completeVerification t n).ports = s.ports ∧
      (s.completeVerification t n).start = s.start ∧
      (s.completeVerification t n).freeCount = s.freeCount := by
  simp [State.completeVerification]

/-- A verification started. -/
@[simp] theorem State.startVerification_keeps (s : State) (t : Tag) :
    (s.startVerification t).pending = s.pending ∧
      (s.startVerification t).lineTime = s.lineTime ∧
      (s.startVerification t).cards = s.cards ∧
      (s.startVerification t).tables = s.tables ∧
      (s.startVerification t).sequencer = s.sequencer ∧
      (s.startVerification t).coverage = s.coverage ∧
      (s.startVerification t).cure = s.cure ∧
      (s.startVerification t).holds = s.holds ∧
      (s.startVerification t).line = s.line ∧
      (s.startVerification t).start = s.start ∧
      (s.startVerification t).freeCount = s.freeCount := by
  unfold State.startVerification; dsimp only; split <;> simp

/-- A reserved frame's owner set. -/
@[simp] theorem State.ownReserved_keeps (s : State) (t : Tag) (f : Option FrameId) :
    (s.ownReserved t f).pending = s.pending ∧
      (s.ownReserved t f).lineTime = s.lineTime ∧
      (s.ownReserved t f).exchange = s.exchange ∧
      (s.ownReserved t f).cards = s.cards ∧
      (s.ownReserved t f).tables = s.tables ∧
      (s.ownReserved t f).tracker = s.tracker ∧
      (s.ownReserved t f).verifier = s.verifier ∧
      (s.ownReserved t f).sequencer = s.sequencer ∧
      (s.ownReserved t f).cure = s.cure ∧
      (s.ownReserved t f).holds = s.holds ∧
      (s.ownReserved t f).line = s.line ∧
      (s.ownReserved t f).ports = s.ports ∧
      (s.ownReserved t f).start = s.start ∧
      (s.ownReserved t f).freeCount = s.freeCount := by
  unfold State.ownReserved; split <;> simp

/-- A matched arrival. -/
@[simp] theorem State.matchArrival_keeps (s : State) (t : Tag) (a : Admission) :
    (s.matchArrival t a).pending = s.pending ∧
      (s.matchArrival t a).lineTime = s.lineTime ∧
      (s.matchArrival t a).cards = s.cards ∧
      (s.matchArrival t a).tables = s.tables ∧
      (s.matchArrival t a).sequencer = s.sequencer ∧
      (s.matchArrival t a).cure = s.cure ∧
      (s.matchArrival t a).holds = s.holds ∧
      (s.matchArrival t a).line = s.line := by
  simp [State.matchArrival]

/-- An arrival. -/
@[simp] theorem State.takeArrival_keeps (s : State) (n : Option Serial) :
    (s.takeArrival n).pending = s.pending ∧
      (s.takeArrival n).lineTime = s.lineTime ∧
      (s.takeArrival n).cards = s.cards ∧
      (s.takeArrival n).tables = s.tables ∧
      (s.takeArrival n).sequencer = s.sequencer ∧
      (s.takeArrival n).cure = s.cure ∧
      (s.takeArrival n).holds = s.holds ∧
      (s.takeArrival n).line = s.line := by
  unfold State.takeArrival; dsimp only; (repeat' split) <;> simp

/-- A mask result. -/
@[simp] theorem State.takeMaskResult_keeps (s : State) (i : Byte) (v : MaskResult) :
    (s.takeMaskResult i v).pending = s.pending ∧
      (s.takeMaskResult i v).lineTime = s.lineTime ∧
      (s.takeMaskResult i v).cards = s.cards ∧
      (s.takeMaskResult i v).tables = s.tables ∧
      (s.takeMaskResult i v).sequencer = s.sequencer ∧
      (s.takeMaskResult i v).coverage = s.coverage ∧
      (s.takeMaskResult i v).cure = s.cure ∧
      (s.takeMaskResult i v).holds = s.holds ∧
      (s.takeMaskResult i v).line = s.line ∧
      (s.takeMaskResult i v).ports = s.ports ∧
      (s.takeMaskResult i v).start = s.start ∧
      (s.takeMaskResult i v).freeCount = s.freeCount := by
  unfold State.takeMaskResult; dsimp only; (repeat' split) <;> simp

/-- The verification deadline. -/
@[simp] theorem State.expireVerification_keeps (s : State) :
    (s.expireVerification).pending = s.pending ∧
      (s.expireVerification).lineTime = s.lineTime ∧
      (s.expireVerification).cards = s.cards ∧
      (s.expireVerification).tables = s.tables ∧
      (s.expireVerification).sequencer = s.sequencer ∧
      (s.expireVerification).coverage = s.coverage ∧
      (s.expireVerification).cure = s.cure ∧
      (s.expireVerification).holds = s.holds ∧
      (s.expireVerification).line = s.line ∧
      (s.expireVerification).ports = s.ports ∧
      (s.expireVerification).start = s.start ∧
      (s.expireVerification).freeCount = s.freeCount := by
  unfold State.expireVerification; (repeat' split) <;> simp

/-- A transfer started. -/
@[simp] theorem State.beginTransfer_keeps (s : State) (r : Route) (n : Nat) :
    (s.beginTransfer r n).pending = s.pending ∧
      (s.beginTransfer r n).lineTime = s.lineTime ∧
      (s.beginTransfer r n).exchange = s.exchange ∧
      (s.beginTransfer r n).cards = s.cards ∧
      (s.beginTransfer r n).tables = s.tables ∧
      (s.beginTransfer r n).verifier = s.verifier ∧
      (s.beginTransfer r n).sequencer = s.sequencer ∧
      (s.beginTransfer r n).coverage = s.coverage ∧
      (s.beginTransfer r n).cure = s.cure ∧
      (s.beginTransfer r n).holds = s.holds ∧
      (s.beginTransfer r n).line = s.line ∧
      (s.beginTransfer r n).start = s.start ∧
      (s.beginTransfer r n).freeCount = s.freeCount := by
  simp [State.beginTransfer]

/-- A route started. -/
@[simp] theorem State.startRoute_keeps (s : State) (r : Route) (t : Tag) :
    (s.startRoute r t).pending = s.pending ∧
      (s.startRoute r t).lineTime = s.lineTime ∧
      (s.startRoute r t).cards = s.cards ∧
      (s.startRoute r t).tables = s.tables ∧
      (s.startRoute r t).verifier = s.verifier ∧
      (s.startRoute r t).coverage = s.coverage ∧
      (s.startRoute r t).line = s.line ∧
      (s.startRoute r t).start = s.start ∧
      (s.startRoute r t).freeCount = s.freeCount := by
  unfold State.startRoute; dsimp only; (repeat' split) <;> simp

/-- The divert decision. -/
@[simp] theorem State.divert_keeps (s : State) :
    (s.divert).pending = s.pending ∧
      (s.divert).lineTime = s.lineTime ∧
      (s.divert).exchange = s.exchange ∧
      (s.divert).cards = s.cards ∧
      (s.divert).tables = s.tables ∧
      (s.divert).verifier = s.verifier ∧
      (s.divert).sequencer = s.sequencer ∧
      (s.divert).coverage = s.coverage ∧
      (s.divert).cure = s.cure ∧
      (s.divert).holds = s.holds ∧
      (s.divert).line = s.line ∧
      (s.divert).ports = s.ports ∧
      (s.divert).start = s.start ∧
      (s.divert).freeCount = s.freeCount := by
  unfold State.divert; split <;> simp

/-- A transfer's completion. -/
@[simp] theorem State.completeRoute_keeps (s : State) (r : Route) (t : Tag) (n : Nat) :
    (s.completeRoute r t n).pending = s.pending ∧
      (s.completeRoute r t n).lineTime = s.lineTime ∧
      (s.completeRoute r t n).cards = s.cards ∧
      (s.completeRoute r t n).tables = s.tables ∧
      (s.completeRoute r t n).start = s.start ∧
      (s.completeRoute r t n).freeCount = s.freeCount := by
  cases r <;> simp [State.completeRoute, State.doneMaskToInfeed, State.doneMaskToLane, State.doneInfeedToCell, State.doneCellToFlash,
    State.doneCoolToExit, State.doneCoolToSpur]

/-- TRANSFER_DONE. -/
@[simp] theorem State.takeTransferDone_keeps (s : State) (r : Route) :
    (s.takeTransferDone r).pending = s.pending ∧
      (s.takeTransferDone r).lineTime = s.lineTime ∧
      (s.takeTransferDone r).cards = s.cards ∧
      (s.takeTransferDone r).tables = s.tables ∧
      (s.takeTransferDone r).start = s.start ∧
      (s.takeTransferDone r).freeCount = s.freeCount := by
  unfold State.takeTransferDone; (repeat' split) <;> simp

/-- A transfer fault. -/
@[simp] theorem State.failTransfer_keeps (s : State) (r : Route) (n : Nat) :
    (s.failTransfer r n).pending = s.pending ∧
      (s.failTransfer r n).lineTime = s.lineTime ∧
      (s.failTransfer r n).cards = s.cards ∧
      (s.failTransfer r n).tables = s.tables ∧
      (s.failTransfer r n).verifier = s.verifier ∧
      (s.failTransfer r n).coverage = s.coverage ∧
      (s.failTransfer r n).holds = s.holds ∧
      (s.failTransfer r n).start = s.start ∧
      (s.failTransfer r n).freeCount = s.freeCount := by
  simp [State.failTransfer]

/-- TRANSFER_FAULT. -/
@[simp] theorem State.takeTransferFault_keeps (s : State) (r : Route) :
    (s.takeTransferFault r).pending = s.pending ∧
      (s.takeTransferFault r).lineTime = s.lineTime ∧
      (s.takeTransferFault r).cards = s.cards ∧
      (s.takeTransferFault r).tables = s.tables ∧
      (s.takeTransferFault r).verifier = s.verifier ∧
      (s.takeTransferFault r).coverage = s.coverage ∧
      (s.takeTransferFault r).holds = s.holds ∧
      (s.takeTransferFault r).start = s.start ∧
      (s.takeTransferFault r).freeCount = s.freeCount := by
  unfold State.takeTransferFault; split <;> simp

/-- A valve opened. -/
@[simp] theorem State.openValve_keeps (s : State) (a : ApplicatorId) :
    (s.openValve a).pending = s.pending ∧
      (s.openValve a).lineTime = s.lineTime ∧
      (s.openValve a).exchange = s.exchange ∧
      (s.openValve a).cards = s.cards ∧
      (s.openValve a).tables = s.tables ∧
      (s.openValve a).tracker = s.tracker ∧
      (s.openValve a).verifier = s.verifier ∧
      (s.openValve a).coverage = s.coverage ∧
      (s.openValve a).cure = s.cure ∧
      (s.openValve a).holds = s.holds ∧
      (s.openValve a).line = s.line ∧
      (s.openValve a).start = s.start ∧
      (s.openValve a).freeCount = s.freeCount := by
  simp [State.openValve]

/-- SEG_STARTED. -/
@[simp] theorem State.takeSegStarted_keeps (s : State) (t : Byte) (i : Half) :
    (s.takeSegStarted t i).pending = s.pending ∧
      (s.takeSegStarted t i).lineTime = s.lineTime ∧
      (s.takeSegStarted t i).cards = s.cards ∧
      (s.takeSegStarted t i).tables = s.tables ∧
      (s.takeSegStarted t i).verifier = s.verifier ∧
      (s.takeSegStarted t i).coverage = s.coverage ∧
      (s.takeSegStarted t i).cure = s.cure ∧
      (s.takeSegStarted t i).holds = s.holds ∧
      (s.takeSegStarted t i).line = s.line ∧
      (s.takeSegStarted t i).start = s.start ∧
      (s.takeSegStarted t i).freeCount = s.freeCount := by
  unfold State.takeSegStarted; dsimp only; (repeat' split) <;> simp

/-- The end of a wet segment. -/
@[simp] theorem State.finishWet_keeps (s : State) (t : Tag) (g : Segment) (a : ApplicatorId) :
    (s.finishWet t g a).pending = s.pending ∧
      (s.finishWet t g a).lineTime = s.lineTime ∧
      (s.finishWet t g a).cards = s.cards ∧
      (s.finishWet t g a).tables = s.tables ∧
      (s.finishWet t g a).tracker = s.tracker ∧
      (s.finishWet t g a).verifier = s.verifier ∧
      (s.finishWet t g a).coverage = s.coverage ∧
      (s.finishWet t g a).cure = s.cure ∧
      (s.finishWet t g a).holds = s.holds ∧
      (s.finishWet t g a).line = s.line ∧
      (s.finishWet t g a).start = s.start ∧
      (s.finishWet t g a).freeCount = s.freeCount := by
  simp [State.finishWet]

/-- The segment boundary. -/
@[simp] theorem State.boundary_keeps (s : State) (t : Tag) :
    (s.boundary t).pending = s.pending ∧
      (s.boundary t).lineTime = s.lineTime ∧
      (s.boundary t).cards = s.cards ∧
      (s.boundary t).tables = s.tables ∧
      (s.boundary t).verifier = s.verifier ∧
      (s.boundary t).coverage = s.coverage ∧
      (s.boundary t).cure = s.cure ∧
      (s.boundary t).holds = s.holds ∧
      (s.boundary t).line = s.line ∧
      (s.boundary t).start = s.start ∧
      (s.boundary t).freeCount = s.freeCount := by
  unfold State.boundary; (repeat' split) <;> simp

/-- SEG_DONE. -/
@[simp] theorem State.takeSegDone_keeps (s : State) (t : Byte) (i : Half) :
    (s.takeSegDone t i).pending = s.pending ∧
      (s.takeSegDone t i).lineTime = s.lineTime ∧
      (s.takeSegDone t i).cards = s.cards ∧
      (s.takeSegDone t i).tables = s.tables ∧
      (s.takeSegDone t i).verifier = s.verifier ∧
      (s.takeSegDone t i).coverage = s.coverage ∧
      (s.takeSegDone t i).cure = s.cure ∧
      (s.takeSegDone t i).holds = s.holds ∧
      (s.takeSegDone t i).line = s.line ∧
      (s.takeSegDone t i).start = s.start ∧
      (s.takeSegDone t i).freeCount = s.freeCount := by
  unfold State.takeSegDone; dsimp only; (repeat' split) <;> simp

/-- MOTION_FAULT. -/
@[simp] theorem State.takeMotionFault_keeps (s : State) :
    (s.takeMotionFault).pending = s.pending ∧
      (s.takeMotionFault).lineTime = s.lineTime ∧
      (s.takeMotionFault).cards = s.cards ∧
      (s.takeMotionFault).tables = s.tables ∧
      (s.takeMotionFault).verifier = s.verifier ∧
      (s.takeMotionFault).coverage = s.coverage ∧
      (s.takeMotionFault).cure = s.cure ∧
      (s.takeMotionFault).holds = s.holds ∧
      (s.takeMotionFault).line = s.line ∧
      (s.takeMotionFault).start = s.start ∧
      (s.takeMotionFault).freeCount = s.freeCount := by
  unfold State.takeMotionFault; split <;> simp

/-- A monitor that leaves IN_BAND. -/
@[simp] theorem State.leaveBand_keeps (s : State) (a : ApplicatorId) :
    (s.leaveBand a).pending = s.pending ∧
      (s.leaveBand a).lineTime = s.lineTime ∧
      (s.leaveBand a).cards = s.cards ∧
      (s.leaveBand a).tables = s.tables ∧
      (s.leaveBand a).verifier = s.verifier ∧
      (s.leaveBand a).coverage = s.coverage ∧
      (s.leaveBand a).cure = s.cure ∧
      (s.leaveBand a).holds = s.holds ∧
      (s.leaveBand a).line = s.line ∧
      (s.leaveBand a).start = s.start ∧
      (s.leaveBand a).freeCount = s.freeCount := by
  unfold State.leaveBand; split <;> simp

/-- A monitor that enters IN_BAND. -/
@[simp] theorem State.enterBand_keeps (s : State) (a : ApplicatorId) :
    (s.enterBand a).pending = s.pending ∧
      (s.enterBand a).lineTime = s.lineTime ∧
      (s.enterBand a).cards = s.cards ∧
      (s.enterBand a).tables = s.tables ∧
      (s.enterBand a).tracker = s.tracker ∧
      (s.enterBand a).verifier = s.verifier ∧
      (s.enterBand a).coverage = s.coverage ∧
      (s.enterBand a).cure = s.cure ∧
      (s.enterBand a).holds = s.holds ∧
      (s.enterBand a).line = s.line ∧
      (s.enterBand a).start = s.start ∧
      (s.enterBand a).freeCount = s.freeCount := by
  unfold State.enterBand; (repeat' split) <;> simp

/-- A monitor's change of state. -/
@[simp] theorem State.changeMonitor_keeps (s : State) (a : ApplicatorId) (v : PressureState) (n : Nat) :
    (s.changeMonitor a v n).pending = s.pending ∧
      (s.changeMonitor a v n).lineTime = s.lineTime ∧
      (s.changeMonitor a v n).cards = s.cards ∧
      (s.changeMonitor a v n).tables = s.tables ∧
      (s.changeMonitor a v n).verifier = s.verifier ∧
      (s.changeMonitor a v n).coverage = s.coverage ∧
      (s.changeMonitor a v n).cure = s.cure ∧
      (s.changeMonitor a v n).holds = s.holds ∧
      (s.changeMonitor a v n).line = s.line ∧
      (s.changeMonitor a v n).start = s.start ∧
      (s.changeMonitor a v n).freeCount = s.freeCount := by
  unfold State.changeMonitor; dsimp only; (repeat' split) <;> simp

/-- A sample stored. -/
@[simp] theorem State.storeSample_keeps (s : State) (a : ApplicatorId) (p : Nat) :
    (s.storeSample a p).pending = s.pending ∧
      (s.storeSample a p).lineTime = s.lineTime ∧
      (s.storeSample a p).exchange = s.exchange ∧
      (s.storeSample a p).cards = s.cards ∧
      (s.storeSample a p).tables = s.tables ∧
      (s.storeSample a p).tracker = s.tracker ∧
      (s.storeSample a p).verifier = s.verifier ∧
      (s.storeSample a p).coverage = s.coverage ∧
      (s.storeSample a p).cure = s.cure ∧
      (s.storeSample a p).holds = s.holds ∧
      (s.storeSample a p).line = s.line ∧
      (s.storeSample a p).ports = s.ports ∧
      (s.storeSample a p).start = s.start ∧
      (s.storeSample a p).freeCount = s.freeCount := by
  simp [State.storeSample]

/-- PRESSURE. -/
@[simp] theorem State.takePressure_keeps (s : State) (a : Byte) (p : Half) :
    (s.takePressure a p).pending = s.pending ∧
      (s.takePressure a p).lineTime = s.lineTime ∧
      (s.takePressure a p).cards = s.cards ∧
      (s.takePressure a p).tables = s.tables ∧
      (s.takePressure a p).verifier = s.verifier ∧
      (s.takePressure a p).coverage = s.coverage ∧
      (s.takePressure a p).cure = s.cure ∧
      (s.takePressure a p).holds = s.holds ∧
      (s.takePressure a p).line = s.line ∧
      (s.takePressure a p).start = s.start ∧
      (s.takePressure a p).freeCount = s.freeCount := by
  unfold State.takePressure; dsimp only; (repeat' split) <;> simp

/-- GUARD. -/
@[simp] theorem State.takeGuard_keeps (s : State) (g : GuardState) :
    (s.takeGuard g).pending = s.pending ∧
      (s.takeGuard g).lineTime = s.lineTime ∧
      (s.takeGuard g).cards = s.cards ∧
      (s.takeGuard g).tables = s.tables ∧
      (s.takeGuard g).verifier = s.verifier ∧
      (s.takeGuard g).coverage = s.coverage ∧
      (s.takeGuard g).cure = s.cure ∧
      (s.takeGuard g).holds = s.holds ∧
      (s.takeGuard g).line = s.line ∧
      (s.takeGuard g).start = s.start ∧
      (s.takeGuard g).freeCount = s.freeCount := by
  unfold State.takeGuard; dsimp only; (repeat' split) <;> simp

/-- Oven entry. -/
@[simp] theorem State.enterOven_keeps (s : State) (t : Tag) :
    (s.enterOven t).pending = s.pending ∧
      (s.enterOven t).lineTime = s.lineTime ∧
      (s.enterOven t).cards = s.cards ∧
      (s.enterOven t).tables = s.tables ∧
      (s.enterOven t).verifier = s.verifier ∧
      (s.enterOven t).sequencer = s.sequencer ∧
      (s.enterOven t).coverage = s.coverage ∧
      (s.enterOven t).holds = s.holds ∧
      (s.enterOven t).line = s.line ∧
      (s.enterOven t).start = s.start ∧
      (s.enterOven t).freeCount = s.freeCount := by
  simp [State.enterOven]

/-- ENTRY_SEEN. -/
@[simp] theorem State.takeEntrySeen_keeps (s : State) :
    (s.takeEntrySeen).pending = s.pending ∧
      (s.takeEntrySeen).lineTime = s.lineTime ∧
      (s.takeEntrySeen).cards = s.cards ∧
      (s.takeEntrySeen).tables = s.tables ∧
      (s.takeEntrySeen).verifier = s.verifier ∧
      (s.takeEntrySeen).coverage = s.coverage ∧
      (s.takeEntrySeen).holds = s.holds ∧
      (s.takeEntrySeen).start = s.start ∧
      (s.takeEntrySeen).freeCount = s.freeCount := by
  unfold State.takeEntrySeen; split <;> simp

/-- A zone reading. -/
@[simp] theorem State.takeReading_keeps (s : State) (z : Fin 6) (r : Option Nat) :
    (s.takeReading z r).pending = s.pending ∧
      (s.takeReading z r).lineTime = s.lineTime ∧
      (s.takeReading z r).cards = s.cards ∧
      (s.takeReading z r).tables = s.tables ∧
      (s.takeReading z r).tracker = s.tracker ∧
      (s.takeReading z r).verifier = s.verifier ∧
      (s.takeReading z r).sequencer = s.sequencer ∧
      (s.takeReading z r).coverage = s.coverage ∧
      (s.takeReading z r).holds = s.holds ∧
      (s.takeReading z r).line = s.line ∧
      (s.takeReading z r).ports = s.ports ∧
      (s.takeReading z r).start = s.start ∧
      (s.takeReading z r).freeCount = s.freeCount := by
  unfold State.takeReading; dsimp only; split <;> simp

/-- An exit into the cool list. -/
@[simp] theorem State.exitToCool_keeps (s : State) (t : Tag) :
    (s.exitToCool t).pending = s.pending ∧
      (s.exitToCool t).lineTime = s.lineTime ∧
      (s.exitToCool t).cards = s.cards ∧
      (s.exitToCool t).tables = s.tables ∧
      (s.exitToCool t).verifier = s.verifier ∧
      (s.exitToCool t).sequencer = s.sequencer ∧
      (s.exitToCool t).coverage = s.coverage ∧
      (s.exitToCool t).holds = s.holds ∧
      (s.exitToCool t).line = s.line ∧
      (s.exitToCool t).start = s.start ∧
      (s.exitToCool t).freeCount = s.freeCount := by
  unfold State.exitToCool; dsimp only; split <;> simp

/-- SLOT_STATE. -/
@[simp] theorem State.takeSlotState_keeps (s : State) (n : Byte) (r : SlotReport) :
    (s.takeSlotState n r).pending = s.pending ∧
      (s.takeSlotState n r).lineTime = s.lineTime ∧
      (s.takeSlotState n r).cards = s.cards ∧
      (s.takeSlotState n r).tables = s.tables ∧
      (s.takeSlotState n r).verifier = s.verifier ∧
      (s.takeSlotState n r).sequencer = s.sequencer ∧
      (s.takeSlotState n r).coverage = s.coverage ∧
      (s.takeSlotState n r).cure = s.cure ∧
      (s.takeSlotState n r).line = s.line ∧
      (s.takeSlotState n r).ports = s.ports ∧
      (s.takeSlotState n r).start = s.start ∧
      (s.takeSlotState n r).freeCount = s.freeCount := by
  unfold State.takeSlotState; dsimp only; (repeat' split) <;> simp

/-- A card completed. -/
@[simp] theorem State.completeAs_keeps (s : State) (n : CardId) (k : Byte) (tag : Word) (r : CardResult) :
    (s.completeAs n k tag r).pending = s.pending ∧
      (s.completeAs n k tag r).lineTime = s.lineTime ∧
      (s.completeAs n k tag r).cards = s.cards ∧
      (s.completeAs n k tag r).tables = s.tables ∧
      (s.completeAs n k tag r).tracker = s.tracker ∧
      (s.completeAs n k tag r).verifier = s.verifier ∧
      (s.completeAs n k tag r).sequencer = s.sequencer ∧
      (s.completeAs n k tag r).coverage = s.coverage ∧
      (s.completeAs n k tag r).cure = s.cure ∧
      (s.completeAs n k tag r).holds = s.holds ∧
      (s.completeAs n k tag r).line = s.line ∧
      (s.completeAs n k tag r).ports = s.ports ∧
      (s.completeAs n k tag r).start = s.start ∧
      (s.completeAs n k tag r).freeCount = s.freeCount := by
  simp [State.completeAs]

/-- The card that was processed, completed. -/
@[simp] theorem State.completeCard_keeps (s : State) (c : TakenCard) (rest : List TakenCard) (r : CardResult) :
    (s.completeCard c rest r).pending = s.pending ∧
      (s.completeCard c rest r).lineTime = s.lineTime ∧
      (s.completeCard c rest r).tables = s.tables ∧
      (s.completeCard c rest r).tracker = s.tracker ∧
      (s.completeCard c rest r).verifier = s.verifier ∧
      (s.completeCard c rest r).sequencer = s.sequencer ∧
      (s.completeCard c rest r).coverage = s.coverage ∧
      (s.completeCard c rest r).cure = s.cure ∧
      (s.completeCard c rest r).holds = s.holds ∧
      (s.completeCard c rest r).line = s.line ∧
      (s.completeCard c rest r).ports = s.ports ∧
      (s.completeCard c rest r).start = s.start ∧
      (s.completeCard c rest r).freeCount = s.freeCount := by
  simp [State.completeCard]

/-- A disposed board's slot. -/
@[simp] theorem State.makeForeign_keeps (s : State) (l : Location) :
    (s.makeForeign l).pending = s.pending ∧
      (s.makeForeign l).lineTime = s.lineTime ∧
      (s.makeForeign l).cards = s.cards ∧
      (s.makeForeign l).tables = s.tables ∧
      (s.makeForeign l).tracker = s.tracker ∧
      (s.makeForeign l).verifier = s.verifier ∧
      (s.makeForeign l).sequencer = s.sequencer ∧
      (s.makeForeign l).coverage = s.coverage ∧
      (s.makeForeign l).cure = s.cure ∧
      (s.makeForeign l).line = s.line ∧
      (s.makeForeign l).ports = s.ports ∧
      (s.makeForeign l).start = s.start ∧
      (s.makeForeign l).freeCount = s.freeCount := by
  unfold State.makeForeign; split <;> simp

/-- A board freed from a hold. -/
@[simp] theorem State.dropBoard_keeps (s : State) (t : Tag) :
    (s.dropBoard t).pending = s.pending ∧
      (s.dropBoard t).lineTime = s.lineTime ∧
      (s.dropBoard t).exchange = s.exchange ∧
      (s.dropBoard t).cards = s.cards ∧
      (s.dropBoard t).tables = s.tables ∧
      (s.dropBoard t).verifier = s.verifier ∧
      (s.dropBoard t).sequencer = s.sequencer ∧
      (s.dropBoard t).coverage = s.coverage ∧
      (s.dropBoard t).cure = s.cure ∧
      (s.dropBoard t).line = s.line ∧
      (s.dropBoard t).ports = s.ports ∧
      (s.dropBoard t).start = s.start ∧
      (s.dropBoard t).freeCount = s.freeCount := by
  simp [State.dropBoard]

/-- A host write to a directory entry. -/
@[simp] theorem State.writeEntry_keeps (s : State) (n : CardId) (b : Byte) :
    (s.writeEntry n b).pending = s.pending ∧
      (s.writeEntry n b).lineTime = s.lineTime ∧
      (s.writeEntry n b).cards = s.cards ∧
      (s.writeEntry n b).tables = s.tables ∧
      (s.writeEntry n b).tracker = s.tracker ∧
      (s.writeEntry n b).verifier = s.verifier ∧
      (s.writeEntry n b).sequencer = s.sequencer ∧
      (s.writeEntry n b).coverage = s.coverage ∧
      (s.writeEntry n b).cure = s.cure ∧
      (s.writeEntry n b).holds = s.holds ∧
      (s.writeEntry n b).line = s.line ∧
      (s.writeEntry n b).ports = s.ports ∧
      (s.writeEntry n b).start = s.start ∧
      (s.writeEntry n b).freeCount = s.freeCount := by
  unfold State.writeEntry; split <;> simp [State.markScan, State.acceptEntry, State.dropWrite]

/-- A host write to a card. -/
@[simp] theorem State.writeCard_keeps (s : State) (n : CardId) (o : Nat) (d : Word) :
    (s.writeCard n o d).pending = s.pending ∧
      (s.writeCard n o d).lineTime = s.lineTime ∧
      (s.writeCard n o d).cards = s.cards ∧
      (s.writeCard n o d).tables = s.tables ∧
      (s.writeCard n o d).tracker = s.tracker ∧
      (s.writeCard n o d).verifier = s.verifier ∧
      (s.writeCard n o d).sequencer = s.sequencer ∧
      (s.writeCard n o d).coverage = s.coverage ∧
      (s.writeCard n o d).cure = s.cure ∧
      (s.writeCard n o d).holds = s.holds ∧
      (s.writeCard n o d).line = s.line ∧
      (s.writeCard n o d).ports = s.ports ∧
      (s.writeCard n o d).start = s.start ∧
      (s.writeCard n o d).freeCount = s.freeCount := by
  unfold State.writeCard; split <;> simp [State.dropWrite]

/-- A host write of exchange memory. -/
@[simp] theorem State.hostWrite_keeps (s : State) (o : Nat) (d : Word) :
    (s.hostWrite o d).pending = s.pending ∧
      (s.hostWrite o d).lineTime = s.lineTime ∧
      (s.hostWrite o d).cards = s.cards ∧
      (s.hostWrite o d).tables = s.tables ∧
      (s.hostWrite o d).tracker = s.tracker ∧
      (s.hostWrite o d).verifier = s.verifier ∧
      (s.hostWrite o d).sequencer = s.sequencer ∧
      (s.hostWrite o d).coverage = s.coverage ∧
      (s.hostWrite o d).cure = s.cure ∧
      (s.hostWrite o d).holds = s.holds ∧
      (s.hostWrite o d).line = s.line ∧
      (s.hostWrite o d).ports = s.ports ∧
      (s.hostWrite o d).start = s.start ∧
      (s.hostWrite o d).freeCount = s.freeCount := by
  unfold State.hostWrite; split <;> simp [State.dropWrite]

/-- The cell at a line clear. -/
@[simp] theorem State.clearCell_keeps (s : State) :
    (s.clearCell).pending = s.pending ∧
      (s.clearCell).lineTime = s.lineTime ∧
      (s.clearCell).cards = s.cards ∧
      (s.clearCell).tables = s.tables ∧
      (s.clearCell).tracker = s.tracker ∧
      (s.clearCell).verifier = s.verifier ∧
      (s.clearCell).coverage = s.coverage ∧
      (s.clearCell).cure = s.cure ∧
      (s.clearCell).holds = s.holds ∧
      (s.clearCell).line = s.line ∧
      (s.clearCell).ports = s.ports ∧
      (s.clearCell).start = s.start ∧
      (s.clearCell).freeCount = s.freeCount := by
  unfold State.clearCell; dsimp only; split <;> simp

/-- The oven at a line clear. -/
@[simp] theorem State.clearOven_keeps (s : State) :
    (s.clearOven).pending = s.pending ∧
      (s.clearOven).lineTime = s.lineTime ∧
      (s.clearOven).exchange = s.exchange ∧
      (s.clearOven).cards = s.cards ∧
      (s.clearOven).tables = s.tables ∧
      (s.clearOven).tracker = s.tracker ∧
      (s.clearOven).verifier = s.verifier ∧
      (s.clearOven).sequencer = s.sequencer ∧
      (s.clearOven).coverage = s.coverage ∧
      (s.clearOven).holds = s.holds ∧
      (s.clearOven).line = s.line ∧
      (s.clearOven).start = s.start ∧
      (s.clearOven).freeCount = s.freeCount := by
  unfold State.clearOven; dsimp only; split <;> simp

/-- Records changed one after another: the Board Tracker's items alone change. -/
theorem foldRecords_keeps (g : State → Tag → BoardRecord → BoardRecord) (s : State) (l : List Tag) :
    (l.foldl (fun s t => s.modifyRecord t (g s t)) s).pending = s.pending ∧
      (l.foldl (fun s t => s.modifyRecord t (g s t)) s).lineTime = s.lineTime ∧
      (l.foldl (fun s t => s.modifyRecord t (g s t)) s).exchange = s.exchange ∧
      (l.foldl (fun s t => s.modifyRecord t (g s t)) s).cards = s.cards ∧
      (l.foldl (fun s t => s.modifyRecord t (g s t)) s).tables = s.tables ∧
      (l.foldl (fun s t => s.modifyRecord t (g s t)) s).verifier = s.verifier ∧
      (l.foldl (fun s t => s.modifyRecord t (g s t)) s).sequencer = s.sequencer ∧
      (l.foldl (fun s t => s.modifyRecord t (g s t)) s).coverage = s.coverage ∧
      (l.foldl (fun s t => s.modifyRecord t (g s t)) s).cure = s.cure ∧
      (l.foldl (fun s t => s.modifyRecord t (g s t)) s).holds = s.holds ∧
      (l.foldl (fun s t => s.modifyRecord t (g s t)) s).line = s.line ∧
      (l.foldl (fun s t => s.modifyRecord t (g s t)) s).ports = s.ports ∧
      (l.foldl (fun s t => s.modifyRecord t (g s t)) s).start = s.start ∧
      (l.foldl (fun s t => s.modifyRecord t (g s t)) s).freeCount = s.freeCount := by
  induction l generalizing s with
  | nil => simp
  | cons t l ih => simpa using ih (s.modifyRecord t (g s t))

/-- Readings taken one after another. -/
theorem foldReadings_keeps (g : Fin 6 → Option Nat) (s : State) (l : List (Fin 6)) :
    (l.foldl (fun s z => s.takeReading z (g z)) s).pending = s.pending ∧
      (l.foldl (fun s z => s.takeReading z (g z)) s).lineTime = s.lineTime ∧
      (l.foldl (fun s z => s.takeReading z (g z)) s).cards = s.cards ∧
      (l.foldl (fun s z => s.takeReading z (g z)) s).tables = s.tables ∧
      (l.foldl (fun s z => s.takeReading z (g z)) s).tracker = s.tracker ∧
      (l.foldl (fun s z => s.takeReading z (g z)) s).verifier = s.verifier ∧
      (l.foldl (fun s z => s.takeReading z (g z)) s).sequencer = s.sequencer ∧
      (l.foldl (fun s z => s.takeReading z (g z)) s).coverage = s.coverage ∧
      (l.foldl (fun s z => s.takeReading z (g z)) s).holds = s.holds ∧
      (l.foldl (fun s z => s.takeReading z (g z)) s).line = s.line ∧
      (l.foldl (fun s z => s.takeReading z (g z)) s).ports = s.ports ∧
      (l.foldl (fun s z => s.takeReading z (g z)) s).start = s.start ∧
      (l.foldl (fun s z => s.takeReading z (g z)) s).freeCount = s.freeCount := by
  induction l generalizing s with
  | nil => simp
  | cons z l ih => simpa using ih (s.takeReading z (g z))

/-- Oven stop asserted. -/
@[simp] theorem State.assertStop_keeps (s : State) :
    (s.assertStop).pending = s.pending ∧
      (s.assertStop).lineTime = s.lineTime ∧
      (s.assertStop).exchange = s.exchange ∧
      (s.assertStop).cards = s.cards ∧
      (s.assertStop).tables = s.tables ∧
      (s.assertStop).verifier = s.verifier ∧
      (s.assertStop).sequencer = s.sequencer ∧
      (s.assertStop).coverage = s.coverage ∧
      (s.assertStop).holds = s.holds ∧
      (s.assertStop).line = s.line ∧
      (s.assertStop).start = s.start ∧
      (s.assertStop).freeCount = s.freeCount := by
  unfold State.assertStop
  simp only [State.driveGate_keeps, foldRecords_keeps (fun _ _ => BoardRecord.addReason .ovenStopped)]
  split <;> simp

/-- An exit overrun. -/
@[simp] theorem State.exitOverrun_keeps (s : State) (t : Tag) :
    (s.exitOverrun t).pending = s.pending ∧
      (s.exitOverrun t).lineTime = s.lineTime ∧
      (s.exitOverrun t).cards = s.cards ∧
      (s.exitOverrun t).tables = s.tables ∧
      (s.exitOverrun t).verifier = s.verifier ∧
      (s.exitOverrun t).coverage = s.coverage ∧
      (s.exitOverrun t).start = s.start ∧
      (s.exitOverrun t).freeCount = s.freeCount := by
  simp [State.exitOverrun]

/-- EXIT_SEEN. -/
@[simp] theorem State.takeExitSeen_keeps (s : State) :
    (s.takeExitSeen).pending = s.pending ∧
      (s.takeExitSeen).lineTime = s.lineTime ∧
      (s.takeExitSeen).cards = s.cards ∧
      (s.takeExitSeen).tables = s.tables ∧
      (s.takeExitSeen).verifier = s.verifier ∧
      (s.takeExitSeen).coverage = s.coverage ∧
      (s.takeExitSeen).start = s.start ∧
      (s.takeExitSeen).freeCount = s.freeCount := by
  unfold State.takeExitSeen
  dsimp only
  (repeat' split) <;> simp

/-- OVEN_SAMPLE. -/
@[simp] theorem State.takeOvenSample_keeps (s : State) (v : Vector Half 6) (d : Half) :
    (s.takeOvenSample v d).pending = s.pending ∧
      (s.takeOvenSample v d).lineTime = s.lineTime ∧
      (s.takeOvenSample v d).cards = s.cards ∧
      (s.takeOvenSample v d).tables = s.tables ∧
      (s.takeOvenSample v d).verifier = s.verifier ∧
      (s.takeOvenSample v d).sequencer = s.sequencer ∧
      (s.takeOvenSample v d).coverage = s.coverage ∧
      (s.takeOvenSample v d).holds = s.holds ∧
      (s.takeOvenSample v d).line = s.line ∧
      (s.takeOvenSample v d).start = s.start ∧
      (s.takeOvenSample v d).freeCount = s.freeCount := by
  unfold State.takeOvenSample
  simp [foldRecords_keeps (fun s t => BoardRecord.sample s.oven (s.boardCoating t) s.cure.zones (min 4095 d.toNat)),
    foldReadings_keeps (fun z => readingOf v[z.val])]

/-- The slots at a line clear. -/
@[simp] theorem State.clearSlots_keeps (s : State) :
    (s.clearSlots).pending = s.pending ∧
      (s.clearSlots).lineTime = s.lineTime ∧
      (s.clearSlots).cards = s.cards ∧
      (s.clearSlots).tables = s.tables ∧
      (s.clearSlots).tracker = s.tracker ∧
      (s.clearSlots).verifier = s.verifier ∧
      (s.clearSlots).sequencer = s.sequencer ∧
      (s.clearSlots).coverage = s.coverage ∧
      (s.clearSlots).cure = s.cure ∧
      (s.clearSlots).line = s.line ∧
      (s.clearSlots).ports = s.ports ∧
      (s.clearSlots).start = s.start ∧
      (s.clearSlots).freeCount = s.freeCount := by
  unfold State.clearSlots
  generalize s.reservedSlots = l
  induction l generalizing s with
  | nil => simp
  | cons n l ih => simpa using ih (s.setSlot n .free)

end Sys2Proof.Machine
end

