-- ==== Sys2Proof/Laws/Start.lean ====
section
/-! SUPPORT. The part while it runs, is held in reset or restarts; the visits of a restart and of a walk; and the
levels of a byte. -/

namespace Sys2Proof.Machine

/-! ### Served accesses and events -/

/-- A running part serves every host access. -/
@[simp] theorem State.served_running {s : State} (h : s.start = .running) (f : State → State) : s.served f = f s := by
  simp [State.served, h]

/-- Any other ignores it (R175). -/
theorem State.served_ignored {s : State} (h : s.start ≠ .running) (f : State → State) : s.served f = s := by
  unfold State.served; split <;> simp_all

/-- A running part takes every event. -/
@[simp] theorem State.live_running {s : State} (h : s.start = .running) (f : State → State) : s.live f = f s := by
  simp [State.live, h]

/-- A part held in reset takes none (R186). -/
@[simp] theorem State.live_held {s : State} {k : ResetKind} (h : s.start = .held k) (f : State → State) :
    s.live f = s := by
  simp [State.live, h]

/-- A part that restarts takes an event at the restart's end. -/
@[simp] theorem State.live_restarting {s : State} {n : Nat} (h : s.start = .restarting n) (f : State → State) :
    s.live f = f (s.finishRestart n) := by
  simp [State.live, h]

/-- A host read is served while the part runs, and otherwise returns 0 (R175). -/
@[simp] theorem State.servedRead_running {s : State} (h : s.start = .running) (w : Word) : s.servedRead w = w := by
  simp [State.servedRead, h]

theorem State.servedRead_unserved {s : State} (h : s.start ≠ .running) (w : Word) : s.servedRead w = 0 := by
  unfold State.servedRead; split <;> simp_all

/-! ### The visits of a restart -/

/-- A visit changes the exchange memory controller alone. -/
@[simp] theorem State.visit_keeps (s : State) (v : Visit) :
    (s.visit v).pending = s.pending ∧
      (s.visit v).lineTime = s.lineTime ∧
      (s.visit v).cards = s.cards ∧
      (s.visit v).tables = s.tables ∧
      (s.visit v).tracker = s.tracker ∧
      (s.visit v).verifier = s.verifier ∧
      (s.visit v).sequencer = s.sequencer ∧
      (s.visit v).coverage = s.coverage ∧
      (s.visit v).cure = s.cure ∧
      (s.visit v).holds = s.holds ∧
      (s.visit v).line = s.line ∧
      (s.visit v).ports = s.ports ∧
      (s.visit v).start = s.start ∧
      (s.visit v).freeCount = s.freeCount := by
  cases v <;> simp only [State.visit, State.abortCard, State.reportHeld] <;> split <;> simp

/-- So do any number of visits. -/
@[simp] theorem State.visitAll_keeps (s : State) (l : List Visit) :
    (s.visitAll l).pending = s.pending ∧
      (s.visitAll l).lineTime = s.lineTime ∧
      (s.visitAll l).cards = s.cards ∧
      (s.visitAll l).tables = s.tables ∧
      (s.visitAll l).tracker = s.tracker ∧
      (s.visitAll l).verifier = s.verifier ∧
      (s.visitAll l).sequencer = s.sequencer ∧
      (s.visitAll l).coverage = s.coverage ∧
      (s.visitAll l).cure = s.cure ∧
      (s.visitAll l).holds = s.holds ∧
      (s.visitAll l).line = s.line ∧
      (s.visitAll l).ports = s.ports ∧
      (s.visitAll l).start = s.start ∧
      (s.visitAll l).freeCount = s.freeCount := by
  unfold State.visitAll
  induction l generalizing s with
  | nil => simp
  | cons v l ih => simpa using ih (s.visit v)

/-- Visits made in two parts are made in one. -/
theorem State.visitAll_append (s : State) (k l : List Visit) : s.visitAll (k ++ l) = (s.visitAll k).visitAll l :=
  List.foldl_append ..

/-- A visit that is not due does nothing. -/
theorem State.visit_not_due {s : State} {v : Visit} (h : s.due v = false) : s.visit v = s := by
  cases v <;> simp_all [State.due, State.visit, State.abortCard, State.reportHeld]

/-- There are 64 cards and 32 records to visit. -/
@[simp] theorem length_restartVisits : restartVisits.length = 96 := by
  simp [restartVisits, allCards, allTags]

/-! ### The walk of a scan -/

/-- The walk changes the directory and the Card Processor alone (R29, R30). -/
theorem State.walk_keeps (s : State) (first visits : Nat) :
    s.walk first visits = { s with
      exchange := { s.exchange with directory := (s.walk first visits).exchange.directory }
      cards := (s.walk first visits).cards } := rfl

/-- What the walk leaves in an entry. -/
theorem State.walk_entry (s : State) (first visits : Nat) (n : CardId) :
    (s.walk first visits).exchange.directory[n] =
      if first ≤ n.val ∧ n.val < first + visits then (s.exchange.directory[n]).visit else s.exchange.directory[n] := by
  simp [State.walk]

/-! ### The levels of a byte -/

@[simp] theorem length_byteLevels (b : Byte) : (byteLevels b).length = 10 := by simp [byteLevels]

/-- A byte's levels end in its stop bit. -/
@[simp] theorem hasStopBit_byteLevels (b : Byte) : hasStopBit (byteLevels b) = true := by
  simp [hasStopBit, byteLevels]

/-- A byte is read from its levels as it was sent (R180). -/
@[simp] theorem dataBits_byteLevels (b : Byte) : dataBits (byteLevels b) = b := by
  revert b; decide +kernel

/-- Receiving the levels of a byte takes the byte. -/
@[simp] theorem Receiver.takeLevels_byteLevels (r : Receiver) (b : Byte) : r.takeLevels (byteLevels b) = r.take b := by
  simp [Receiver.takeLevels]

/-- The levels of a byte that lacks its stop bit move every receiver to DISCARDING (R181). -/
@[simp] theorem Receiver.takeLevels_unstopped (r : Receiver) : r.takeLevels unstopped = (.discarding, none) := by
  simp [Receiver.takeLevels, hasStopBit, unstopped, Receiver.lostStop]

end Sys2Proof.Machine
end

