-- ==== Sys2Proof/Tests/Slice0.lean ====
section
/-! SUPPORT. Tests of single commands on small states: the well-formedness checks, the spec's worked
examples, and for each statement states and operands that meet its hypotheses, clause by clause. -/

open Sys2Proof Sys2Proof.Machine

namespace Sys2Proof.Tests

set_option Elab.async false

/-! ### Helpers -/

/-- The state after a command satisfies a test. -/
def after (c : Instr) (s : State) (f : State → Bool) : Bool :=
  match exec c s with
  | .next t => f t
  | .fault _ => false
  | .refused _ => false

/-- The command does nothing in a state. -/
def idle (c : Instr) (s : State) : Bool := after c s fun t => t == s

/-- Applicator 0 is in WARN mode, applicator 1 in INTERLOCK mode. -/
def applicator (mode : MonitorMode) : Applicator := ⟨.film, 150, 300, 80, 0x0F, 260, 340, mode⟩

def coating : Coating :=
  ⟨50, 5, 60, 180, 3600, 4200, 30,
    #v[⟨80, 0⟩, ⟨95, 1⟩, ⟨110, 2⟩, ⟨125, 4⟩, ⟨135, 8⟩, ⟨150, 8⟩, ⟨170, 10⟩, ⟨400, 12⟩]⟩

/-- Recipe 0: no mask, a KEEP_OUT corner, DRY_RUN. Recipe 1: one mask, STOP_BOARD, recoat limit 1. -/
def recipe0 : Recipe :=
  ⟨8, 6, 0, 0, .reject, .dryRun, 1, 500, 100, 400, 50, 300,
    [⟨.coat, 0, 0, 7, 5⟩, ⟨.keepOut, 7, 0, 7, 0⟩]⟩
def recipe1 : Recipe :=
  ⟨8, 6, 0, 0, .reject, .stopBoard, 1, 500, 100, 400, 50, 300,
    [⟨.masked, 0, 0, 1, 1⟩, ⟨.coat, 0, 0, 7, 5⟩]⟩

def wet (a : ApplicatorId) : Segment := .pass a .plusX 1 1 4 2 100 100
def corner : Segment := .pass 0 .plusX 6 0 2 1 100 100
def move : Segment := .move 0 0 100

def tables : Tables :=
  { Tables.reset with
    applicators := #v[
      ⟨some (applicator .warn), false⟩, ⟨some (applicator .interlock), true⟩, ⟨none, false⟩, ⟨none, false⟩]
    coatings := Tables.reset.coatings.set 0 (some coating)
    recipes := (Tables.reset.recipes.set 0 (some recipe0)).set 1 (some recipe1)
    programs := Tables.reset.programs.set 0 ⟨.complete, [wet 0, move, corner, wet 1], some 0⟩
    oven := some ⟨#v[3000, 3000, 3000, 3000, 3000, 3000], 60, 400⟩ }

/-- A line in a mode, at line time 10000, with tables loaded and the guard closed. -/
def line (mode : LineMode) : State :=
  { State.reset with
    lineTime := 10000
    line := ⟨mode, none⟩
    tables := tables
    sequencer := { Sequencer.reset with guard := .closed } }

/-- A board record. -/
def board (stage : Stage) (frame : Option FrameId) : BoardRecord :=
  { BoardRecord.blank with
    written := true
    valid := true
    stage := stage
    pass := 1
    serial := 0x1234
    mapFrame := frame }

/-- A state with a record at tag 2. -/
def withBoard (b : BoardRecord) (s : State) : State := s.setRecord 2 b

/-- A line whose spray cell holds tag 2, with frame 3 ACTIVE. -/
def cell (mode : LineMode) (q : Sequencer → Sequencer) : State :=
  let s := withBoard (board .spraying (some 3)) (line mode)
  { s with
    sequencer := q { s.sequencer with cell := .running }
    tracker := { s.tracker with cell := [⟨2, false⟩] }
    coverage := ⟨s.coverage.frames.set 3 ⟨.active, some 2, some 1⟩⟩ }

/-- A segment held in a phase. -/
def holding (g : Segment) (dry : Bool) (phase : Phase) (q : Sequencer) : Sequencer :=
  { q with segment := some ⟨g, dry⟩, phase := phase, deadline := some 9000 }

/-- The monitor of applicator 1 in a state. -/
def monitored (m : PressureState) (q : Sequencer) : Sequencer :=
  { q with monitors := q.monitors.set 1 ⟨m, some 300, some 9000, 0, 0⟩ }

/-- A taken card, and a state in which it is next. -/
def card (kind : Byte) (body : List Byte) : TakenCard := ⟨3, kind, 77, BitVec.ofNat 16 body.length, body⟩
def next (c : TakenCard) (s : State) : State := { s with cards := ⟨[c], none⟩ }

/-- The status with which card 3 completes. -/
def completes (cmd : Instr) (c : TakenCard) (s : State) (status : Status) : Bool :=
  after cmd (next c s) fun t => t.exchange.directory[(3 : CardId)] == ⟨.done, byte status.code⟩

/-- A route in flight, its deadline passed, with tag 2 at the head of a list. -/
def flight (slot : Nat) : RouteState := .inFlight 9000 slot
def tag2 : List Place := [⟨2, true⟩]

def pad (n : Nat) (l : List Byte) : List Byte := padTo n l

/-! ### Well-formed commands: each check refuses an ill-formed one -/

theorem test_wellFormed_lineCtl :
    (Instr.lineCtlOtherCode 0x501).wellFormed = false ∧ (Instr.lineCtlOtherCode 3).wellFormed = false ∧
      (Instr.lineCtlOtherCode 0).wellFormed = true ∧ (Instr.lineCtlOtherCode 4).wellFormed = true := by decide

theorem test_wellFormed_register :
    (Instr.registerWriteDropped 1 0).wellFormed = false ∧ (Instr.registerWriteDropped 12 0).wellFormed = false ∧
      (Instr.registerWriteDropped 0 0).wellFormed = true ∧ (Instr.registerWriteDropped 15 0).wellFormed = true := by
  decide

theorem test_wellFormed_arrival : (Instr.arrival 0 5).wellFormed = false ∧ (Instr.arrival 3 5).wellFormed = false ∧
    (Instr.arrival 2 5).wellFormed = true := by decide

theorem test_wellFormed_maskResult : (Instr.maskResult 0 3).wellFormed = false ∧
    (Instr.maskResult 9 2).wellFormed = true := by decide

theorem test_wellFormed_slotState : (Instr.slotState 0 0).wellFormed = false ∧
    (Instr.slotState 8 1).wellFormed = true := by decide

theorem test_wellFormed_guard : (Instr.guard 3).wellFormed = false ∧ (Instr.guard 1).wellFormed = true := by decide

theorem test_wellFormed_motionFault : (Instr.motionFault (List.replicate 33 0)).wellFormed = false ∧
    (Instr.motionFault (List.replicate 32 0)).wellFormed = true := by decide +kernel

/-- A frame that the port delivers is no discarded frame; one with a wrong check byte is. -/
theorem test_wellFormed_frameDiscarded :
    (Instr.frameDiscarded .oven (Frame.bytes ⟨0xB2, []⟩)).wellFormed = false ∧
      (Instr.frameDiscarded .oven [0xB2]).wellFormed = false ∧
      (Instr.frameDiscarded .oven [0xB2, 0x00, 0x00]).wellFormed = true := by decide +kernel

theorem test_wellFormed_frameAbandoned :
    (Instr.frameAbandoned .oven (Frame.bytes ⟨0xB3, []⟩)).wellFormed = false ∧
      (Instr.frameAbandoned .oven [0xB3, 0x00]).wellFormed = true := by decide +kernel

theorem test_wellFormed_missingStopBit :
    (Instr.missingStopBit .oven (Frame.bytes ⟨0xB2, []⟩)).wellFormed = false ∧
      (Instr.missingStopBit .station []).wellFormed = true := by decide +kernel

/-! ### The queue and the host port -/

theorem test_step_idles : State.reset.pending = [] := by decide

/-- A POWER_ON of the reset state gives the reset state. -/
theorem test_power_on : after (.powerOnReset (.restart 96)) (line .run) (fun t => t == State.reset) = true := by decide +kernel

/-- What a host write of 0x00000000 at a byte offset does with card 1 TAKEN: whether it is dropped (R24, R31). -/
def dropped (offset : Nat) : Bool :=
  let s := State.reset.setEntry 1 ⟨.taken, 0⟩
  after (.hostMemoryWrite (BitVec.ofNat 15 (offset / 4)) 0) s fun t => t == s.setAttn 0b00100

/-- The windows of R24 at their first and last words. -/
theorem test_host_windows :
    ([0x0, 0xFC, 0x200, 0x204, 0x300, 0xFFC, 0x1000, 0x2FFC, 0x3000, 0x3FFC, 0x4400, 0x47FC, 0x14000, 0x1FFFC].all
      dropped) = true ∧ ([0x100, 0x1FC, 0x4000, 0x43FC, 0x4800, 0x13FFC].any dropped) = false := by decide +kernel

/-- The hypotheses of HostMemoryWritesFollowTheWindow, at the ends of the cards. -/
theorem test_witness_host_memory :
    State.reset.canonical ∧ inCard 0 0x4000 ∧ inCard 63 0x13FFF ∧ partWritable 0xFF ∧ partWritable 0x1FFFF ∧
      ¬partWritable 0x100 ∧ ¬partWritable 0x3000 := by decide

/-- The judgement of a write to a directory entry, FREE, POSTED, TAKEN and DONE, of 0, 1 and 3 (R27). -/
theorem test_directory_table :
    ([CardState.free, .posted, .taken, .done].map fun e =>
      [(0 : Word), 1, 3].map fun w =>
        after (.hostMemoryWrite 0x80 w) (State.reset.setEntry 0 ⟨e, 7⟩) fun t =>
          t.exchange.directory[(0 : CardId)] != ⟨e, 7⟩) =
      [[false, true, false], [true, false, false], [false, false, false], [true, false, false]] := by decide +kernel

theorem test_card_commands :
    after (.posting 0 0xFFFFFF) State.reset (fun t => t.exchange.directory[(0 : CardId)] == ⟨.posted, 0⟩ &&
      t.exchange.scanPending) = true ∧
    after (.withdrawal 63 0) (State.reset.setEntry 63 ⟨.posted, 0⟩)
      (fun t => t.exchange.directory[(63 : CardId)] == ⟨.free, 0⟩) = true ∧
    after (.cardReturn 5 9) (State.reset.setEntry 5 ⟨.done, 4⟩)
      (fun t => t.exchange.directory[(5 : CardId)] == ⟨.free, 0⟩) = true := by decide +kernel

/-- Registers: ATTN bits cleared by 1, START_STATUS, ATTN_EN and the interrupt line (R42-R44). -/
theorem test_registers :
    after (.attnWrite 0x10) State.reset (fun t => t.exchange.attn == 0b00001) = true ∧
    after (.startStatusWrite 0xFFFFFFFE) State.reset (fun t => t.exchange.startStatus == 0b001) = true ∧
    after (.attnEnWrite 0xFFFFFFF0) State.reset (fun t => t.exchange.attnEn == 0b10000 && t.interrupt) = true := by
  decide +kernel

/-- The record of tag 2 on mask lane 0 in the board table, an unwritten record, a directory entry, and a word of the
header (R8, R10, R25, R27). -/
theorem test_host_view :
    let s := (withBoard { board .held (some 3) with
      location := .slot 6, heldTime := some 0x01020304, reasons := 0x4001, lastSegment := some 300 } (line .run)).setEntry
        63 ⟨.done, 7⟩
    s.bytesAt 0x2100 24 =
      [1, 2, 7, 1, 0x34, 0x12, 0, 0, 0, 0, 0, 0, 0, 0, 1, 0, 0x01, 0x40, 0, 0, 3, 0, 0x2C, 0x01] ∧
    s.bytesAt 0x2134 4 = [4, 3, 2, 1] ∧ s.readByte 0x214A = 0b100000 ∧ (s.record 2).written = true ∧
    s.bytesAt 0x2FFC 4 = [0, 0, 0, 0] ∧ (s.record 31).written = false ∧ s.bytesAt 0x2FC 4 = [3, 7, 0, 0] ∧
    s.hostRead 2 = 10000 := by decide +kernel

/-- LINE_CTL as read, with a fault and oven stop, and the other registers (R41-R44). -/
theorem test_register_reads :
    let s : State := { line .run with line := ⟨.faulted, some .unknownAtExit⟩, cure := { Cure.reset with ovenStop := true } }
    s.readRegister 1 = 0x00010305 ∧ s.readRegister 2 = 0x11 ∧ s.readRegister 4 = 1 ∧ s.readRegister 7 = 0 := by
  decide +kernel

/-- LINE_CTL RUN, FREEZE and DRAIN in each mode, LOST first, with an oven table; and RUN in READY without (R168). -/
theorem test_line_ctl :
    ([LineMode.lost, .ready, .run, .freeze, .drain, .faulted].map fun m =>
      [Instr.lineCtlRun 0, .lineCtlFreeze 0, .lineCtlDrain 0].map fun c =>
        after c (withBoard (board .cooling none) (line m)) fun t => t.line.mode != m) =
      [[false, false, false], [true, false, false], [false, true, true], [true, false, true], [true, false, false],
        [false, false, false]] ∧
    after (.lineCtlRun 0) { line .ready with tables := Tables.reset } (fun t => t.line.mode == .ready) = true ∧
    after (.lineCtlDrain 0) (line .freeze) (fun t => t.line.mode == .ready) = true := by decide +kernel

/-- RUN and DRAIN let a PAUSED cell go on, FREEZE pauses an INTERLOCKED one, and DRAIN on an empty line appends two
entries, DRAIN from RUN and READY from DRAIN (R101, R169, R170). -/
theorem test_line_ctl_follows :
    let paused (mode : LineMode) := cell mode fun q => { q with cell := .paused }
    ([Instr.lineCtlRun 0, .lineCtlDrain 0].all fun c =>
      after c (paused .freeze) fun t => t.sequencer.cell == .running && t.sequencer.phase == .sent) = true ∧
    after (.lineCtlFreeze 0) (cell .run fun q => holding (wet 1) false .waiting { q with cell := .interlocked })
      (fun t => t.sequencer.cell == .paused && t.sequencer.phase == .waiting) = true ∧
    after (.lineCtlDrain 0) (line .run) (fun t => t.exchange.writeIndex == 3 &&
      [0x1010, 0x1012, 0x1013, 0x1020, 0x1022, 0x1023].map t.exchange.mem.read == [18, 3, 1, 18, 4, 3]) = true ∧
    (line .run).lineEmpty = true := by decide +kernel

/-- A scan takes the POSTED cards; it does not start with none pending or while cards are taken (R29). -/
theorem test_scan :
    let s := ((State.reset.setEntry 2 ⟨.posted, 0⟩).setEntry 9 ⟨.posted, 0⟩).markScan
    after (.scan 64) s (fun t => t.cards.taken.map (·.index.val) == [2, 9] && !t.exchange.scanPending) = true ∧
      s.cards.taken = [] ∧ idle (.scan 64) State.reset = true ∧
      idle (.scan 64) (next (card 1 []) s) = true := by decide +kernel

/-- The state after the commands, one after another; the state itself where one gives none. -/
def following (s : State) (l : List Instr) : State :=
  l.foldl (fun s c => match exec c s with
    | .next t => t
    | .fault _ => s
    | .refused _ => s) s

/-- Card 20 posted after the walk has visited 10 entries is taken by that walk; card 5 waits for the next; both
postings set scan-pending, and no card is processed before the walk's end (R29). -/
theorem test_walk :
    let s := following State.reset [.posting 7 0, .scan 10, .posting 5 0, .posting 20 0, .refusedKind, .scan 54]
    s.cards.taken.map (·.index.val) = [7, 20] ∧ s.cards.visiting = none ∧ s.exchange.scanPending = true ∧
      s.exchange.directory[(5 : CardId)] = ⟨.posted, 0⟩ ∧
      (following s [.refusedKind, .refusedKind, .scan 64]).cards.taken.map (·.index.val) = [5] := by decide +kernel

/-- The activity list: at write index 255 the entry lies at 0x1FF0 and the index wraps; at read index one ahead the
list is full (R37, R39). -/
theorem test_append :
    let s : State := { State.reset with exchange := { State.reset.exchange with writeIndex := 255 } }
    let t := s.append (.ovenSilent 2)
    (t.exchange.writeIndex == 255 && t.exchange.attn.getLsbD 1) = true ∧
      (let u := { s with exchange := { s.exchange with mem := s.exchange.mem.write 0x100 1 } }.append (.ovenSilent 2)
       u.exchange.writeIndex == 0 && u.exchange.mem.read 0x1FF0 == 11 && u.exchange.mem.read 0x1FF3 == 2) = true := by
  decide +kernel

theorem test_card_completes :
    completes .refusedKind (card 0 []) State.reset .refusedKind = true ∧
    completes .refusedKind (card 14 []) State.reset .refusedKind = true ∧
    idle .refusedKind (next (card 13 []) State.reset) = true ∧ idle .admitCard (next (card 9 []) State.reset) = true ∧
    after .refusedKind (next (card 255 []) State.reset) (fun t =>
      t.exchange.mem.read (0x4000 + 3 * 1024 + 992 + 4) == 255 && t.exchange.mem.read (0x4000 + 3 * 1024 + 1020) == 77) =
        true := by decide +kernel

/-! ### The Table Store -/

def applicatorBody (mode : Byte) : List Byte := [1, 2] ++ le16 4095 ++ le16 50 ++ [100, 0x80] ++ le16 1003 ++ le16 1023 ++ [mode]

theorem test_witness_applicator_load : (card 1 (applicatorBody 1)).applicatorFits := by
  constructor <;> decide

/-- Loaded in INTERLOCK mode, refused in WARN mode while locked, and refused while engaged (R48-R50). -/
theorem test_applicator_load :
    completes .applicatorLoad (card 1 (applicatorBody 2)) (line .run) .ok = true ∧
    completes .applicatorLoad (card 1 (applicatorBody 1)) (line .run) .refusedLocked = true ∧
    completes .applicatorLoad (card 1 (applicatorBody 2)) (cell .run (holding (wet 1) false .waiting)) .refusedBusy =
      true ∧
    (cell .run (holding (wet 1) false .waiting)).sequencer.engaged = some 1 := by decide +kernel

def coatingBody : List Byte :=
  [0, 100] ++ le16 3600 ++ le16 3600 ++ le16 400 ++ le16 0 ++ le16 65535 ++ le16 1440 ++ [0, 0] ++
    ((List.range 8).flatMap fun b => le16 (393 + b) ++ [255, 0])

theorem test_witness_coating_load : (card 2 coatingBody).coatingFits := by
  constructor <;> decide

/-- A coating in use is refused, and the lowest recipe in use is named (R52). -/
theorem test_coating_load :
    completes .coatingLoad (card 2 coatingBody) (line .run) .ok = true ∧
    completes .coatingLoad (card 2 coatingBody) (withBoard (board .held none) (line .run)) .refusedInUse = true := by
  decide +kernel

def recipeBody (program : Byte) : List Byte :=
  [2, 4, 48, program, 0, 2, 1, 2] ++ le16 10000 ++ le16 4095 ++ le16 4095 ++ le16 0 ++ le16 0 ++ [2, 0] ++
    [2, 0, 0, 3, 47, 0] ++ [4, 3, 47, 3, 47, 0]

theorem test_witness_recipe_load : (card 3 (recipeBody 0)).recipeFits := by
  constructor
  case zones => intro z hz; have : z = 0 ∨ z = 1 := by revert hz; revert z; decide
                rcases this with rfl | rfl <;> constructor <;> decide
  all_goals decide

theorem test_recipe_load :
    completes .recipeLoad (card 3 (recipeBody 0)) (line .run) .ok = true ∧
    completes .recipeLoad (card 3 (recipeBody 1)) (line .run) .refusedUnknown = true ∧
    completes .recipeLoad (card 3 (0 :: (recipeBody 0).tail)) (withBoard (board .held none) (line .run)) .refusedInUse =
      true := by decide +kernel

/-- On the map of a held board, a recipe of its id zeroes the KEEP_OUT cell and those beyond the grid alone (R65). -/
theorem test_zero_for_recipe :
    let s := withBoard (board .held (some 3)) (line .ready)
    let s := ({ s with coverage := ⟨s.coverage.frames.set 3 ⟨.retained, some 2, some 1⟩⟩ } : State)
    let s := ((s.writeMem (cellAt 3 (7, 0)) [5]).writeMem (cellAt 3 (1, 1)) [6]).writeMem (cellAt 3 (8, 0)) [7]
    let t := s.zeroForRecipe 0 recipe0
    [(7, 0), (1, 1), (8, 0)].map (t.exchange.mem.cell 3) = [0, 6, 0] ∧ s.canonical ∧
      s.zeroForRecipe 1 recipe0 = s := by decide +kernel

def segmentBody : List Byte := pad 16 ([1, 0, 4, 63, 47, 64, 8, 150] ++ le16 500)
def pathBody (chunk last : Byte) : List Byte := pad 16 [1, chunk, last, 1] ++ segmentBody

theorem test_witness_path_load : (card 4 (pathBody 63 1)).pathFits := by
  constructor
  case records =>
    intro j hj
    have : j = 0 := by revert hj; revert j; decide
    subst this
    constructor <;> decide
  all_goals decide

/-- Chunk 0 starts program 1, chunk 1 follows it, and chunk 2 is out of order (R57). -/
theorem test_path_load :
    let started (k : Tables) : Tables := { k with programs := k.programs.set 1 ⟨.building, [move], some 0⟩ }
    completes .pathLoad (card 4 (pathBody 0 0)) (line .run) .ok = true ∧
    completes .pathLoad (card 4 (pathBody 1 1)) { line .run with tables := started tables } .ok = true ∧
    completes .pathLoad (card 4 (pathBody 2 1)) { line .run with tables := started tables } .refusedSequence = true := by
  decide +kernel

/-- A full store and a program at its limit of 512 segments (R58). -/
theorem test_path_load_full :
    let long (n : Nat) : List Segment := List.replicate n move
    let full : Tables := { tables with programs := Vector.replicate 16 ⟨.building, long 256, some 0⟩ }
    let most : Tables := { tables with programs := tables.programs.set 1 ⟨.building, long 512, some 0⟩ }
    completes .pathLoad (card 4 (pathBody 1 1)) { line .run with tables := full } .refusedFull = true ∧
    completes .pathLoad (card 4 (pathBody 1 1)) { line .run with tables := most } .refusedFull = true := by
  decide +kernel

/-- Chunk 0 of a program that a recipe in use names, and of one for which the store has no room (R53, R58). -/
theorem test_first_chunk_refused :
    let full : Tables := { tables with programs := Vector.replicate 16 ⟨.building, List.replicate 300 move, some 0⟩ }
    completes .pathLoad (card 4 (0 :: (pathBody 0 1).tail)) (withBoard (board .held none) (line .run)) .refusedInUse =
      true ∧
    completes .pathLoad (card 4 (pathBody 0 1)) { line .run with tables := full } .refusedFull = true := by decide +kernel

def patchBody (enabled : Byte) : List Byte := pad 16 ([0, enabled] ++ le16 3) ++ segmentBody

theorem test_witness_patch_set :
    let c := card 5 (patchBody 1)
    c.longEnough 32 ∧ c.u8 16 ≤ 15 ∧ c.u8 17 ≤ 1 ∧ c.u16 18 < (line .run).tables.programs[0].segments.length ∧
      (c.segment 32).applicator = some 0 := by decide

theorem test_witness_patch_segment : (card 5 (patchBody 1)).segmentFits 32 := by constructor <;> decide

def patched : Tables := { tables with patches := tables.patches.set 0 (some ⟨0, 0, move, true⟩) }

/-- A patch is set in a free entry; the running program bars it; four occupied entries leave no room (R59). -/
theorem test_patch_set :
    completes .patchSet (card 5 (patchBody 1)) (line .run) .ok = true ∧
    completes .patchSet (card 5 (patchBody 1)) (cell .run id) .refusedBusy = true ∧
    completes .patchSet (card 5 (patchBody 1))
      { line .run with tables := { tables with patches := Vector.replicate 4 (some ⟨0, 0, move, true⟩) } } .refusedFull =
        true := by decide +kernel

theorem test_patch_clear :
    completes .patchClear (card 6 [0]) { line .run with tables := patched } .ok = true ∧
    completes .patchClear (card 6 [3]) { line .run with tables := patched } .refusedUnknown = true ∧
    completes .patchClear (card 6 [4]) { line .run with tables := patched } .refusedRange = true ∧
    completes .patchClear (card 6 []) { line .run with tables := patched } .refusedRange = true ∧
    completes .patchClear (card 6 [0]) { cell .run id with tables := patched } .refusedBusy = true := by decide +kernel

/-- An enabled patch replaces the stored segment, and only at its index (R61). -/
theorem test_fetch_patched : ({ line .run with tables := patched } : State).fetched 0 0 = move ∧
    ({ line .run with tables := patched } : State).fetched 0 2 = corner := by decide

def ovenBody : List Byte := ((List.range 6).flatMap fun _ => le16 10000) ++ le16 2000 ++ le16 20000

theorem test_witness_oven_load : (card 7 ovenBody).ovenFits := by constructor <;> decide

theorem test_oven_load :
    completes .ovenLoad (card 7 ovenBody) (line .run) .ok = true ∧
    completes .ovenLoad (card 7 ovenBody) { line .run with cure := { Cure.reset with oven := [4] } } .refusedInUse =
      true := by decide +kernel

/-! ### Boards in the line -/

def serialBody (recipe : Byte) : List Byte := [0x34, 0x12, 0, 0, 0, 0, 0, 0, recipe]

def admitted (n : Nat) (s : State) : State :=
  { s with tracker := { s.tracker with admissions := (List.range n).map fun i => ⟨BitVec.ofNat 64 (i + 1), 0, 1, none⟩ } }

/-- The refusals of R2, and an ADMIT that takes the sixteenth place. -/
theorem test_admit :
    completes .admitCard (card 8 (serialBody 0)) (line .lost) .refusedState = true ∧
    completes .admitCard (card 8 (serialBody 0)) (line .faulted) .refusedState = true ∧
    completes .admitCard (card 8 [0x34, 0x12]) (line .ready) .refusedRange = true ∧
    completes .admitCard (card 8 (serialBody 16)) (line .ready) .refusedRange = true ∧
    completes .admitCard (card 8 (serialBody 15)) (line .ready) .refusedUnknown = true ∧
    completes .admitCard (card 8 (serialBody 0)) (withBoard (board .held none) (line .run)) .refusedDuplicate = true ∧
    completes .admitCard (card 8 (serialBody 0)) (admitted 16 (line .run)) .refusedFull = true ∧
    completes .admitCard (card 8 (serialBody 0)) (admitted 15 (line .run)) .ok = true := by decide +kernel

theorem test_withdraw :
    completes .withdrawCard (card 9 [2, 0, 0, 0, 0, 0, 0, 0]) (admitted 3 (line .lost)) .ok = true ∧
    completes .withdrawCard (card 9 [9, 0, 0, 0, 0, 0, 0, 0]) (admitted 3 (line .lost)) .refusedUnknown = true ∧
    completes .withdrawCard (card 9 [2]) (admitted 3 (line .lost)) .refusedRange = true ∧
    after .withdrawCard (next (card 9 [2, 0, 0, 0, 0, 0, 0, 0]) (admitted 3 (line .lost)))
      (fun t => t.tracker.admissions.map (·.serial) == [1, 3]) = true := by decide +kernel

/-- An arrival refused NOT_READY, NO_READ and UNKNOWN_SERIAL, and one that becomes the board at tag 0 (R5, R6). -/
theorem test_arrival :
    after (.arrival 1 2) (admitted 3 (line .freeze)) (fun t => t == (admitted 3 (line .freeze)).append
      (.arrivalRefused .notReady 2)) = true ∧
    after (.arrival 2 2) (admitted 3 (line .run)) (fun t => t.exchange.mem.read 0x1012 == 2) = true ∧
    after (.arrival 1 9) (admitted 3 (line .run)) (fun t => t.exchange.mem.read 0x1012 == 3) = true ∧
    after (.arrival 1 2) (admitted 3 (line .run)) (fun t =>
      (t.record 0).serial == 2 && t.tracker.mask == [⟨0, false⟩] && t.tracker.admissions.map (·.serial) == [1, 3] &&
        t.verifier == ⟨.idle, .pass⟩) = true := by decide +kernel

/-- A board of pass 2 whose recipe has a mask: the verification starts and the reserved frame has an owner (R6, R71). -/
theorem test_arrival_verified :
    let s : State := { line .run with
      tracker := { (line .run).tracker with admissions := [⟨2, 1, 2, some 6⟩] }
      coverage := ⟨(line .run).coverage.frames.set 6 ⟨.reserved, none, some 2⟩⟩ }
    after (.arrival 1 2) s (fun t => t.verifier == ⟨.verifying 0 1 10500, .none⟩ && (t.record 0).mapFrame == some 6 &&
      t.coverage.frames[(6 : FrameId)] == ⟨.reserved, some 0, some 2⟩ && t.ports.station.waiting.length == 2) = true := by
  decide +kernel

/-- With the loader-ready level high, LOADER_READY(0) goes out, ahead of INSPECT where a mask is looked for (R4, R6). -/
theorem test_arrival_frames :
    let s (recipe : RecipeId) : State := { line .run with
      tracker := { (line .run).tracker with admissions := [⟨2, recipe, 1, none⟩], loaderReady := true } }
    after (.arrival 1 2) (s 1) (fun t => t.ports.station.waiting == [.loaderReady false, .loaderReady false, .inspect 1]) =
      true ∧
    after (.arrival 1 2) (s 0) (fun t => t.ports.station.waiting == [.loaderReady false, .loaderReady false]) = true := by
  decide +kernel

/-- A WITHDRAW of an entry with a reserved frame frees the frame (R3). -/
theorem test_withdraw_frame :
    let s : State := { line .ready with
      tracker := { (line .ready).tracker with admissions := [⟨2, 1, 2, some 6⟩] }
      coverage := ⟨(line .ready).coverage.frames.set 6 ⟨.reserved, none, some 2⟩⟩ }
    after .withdrawCard (next (card 9 [2, 0, 0, 0, 0, 0, 0, 0]) s) (fun t => t.tracker.admissions == [] &&
      t.coverage.frames[(6 : FrameId)] == ⟨.free, none, none⟩) = true := by decide +kernel

theorem test_witness_arrival :
    (line .run).idlePort .station ∧ (admitted 1 (line .run)).tracker.mask = [] ∧
      ((line .run).record 0).valid = false := by decide

def verifying : State :=
  { withBoard (board .maskCheck none) (line .run) with verifier := ⟨.verifying 2 1 9000, .none⟩ }

/-- A result below the count completes the verification, one at it is ignored; its deadline completes it with the
index UNREAD, and policy REJECT then rejects (R72-R74). -/
theorem test_mask_result :
    after (.maskResult 0 1) verifying (fun t => t.verifier == ⟨.idle, .pass⟩) = true ∧
    after (.maskResult 0 2) verifying (fun t => t.verifier == ⟨.idle, .reject⟩ && (t.record 2).reasons == 1) = true ∧
    idle (.maskResult 1 1) verifying = true ∧ idle (.maskResult 0 1) (line .run) = true ∧
    after .maskVerifyDeadlineExpiry verifying (fun t => t.verifier.outcome == .reject) = true ∧
    idle .maskVerifyDeadlineExpiry { verifying with lineTime := 8999 } = true := by decide +kernel

def atMask (outcome : MaskOutcome) (inTransit : Bool) : State :=
  let s := withBoard (board .maskCheck none) (line .run)
  { s with tracker := { s.tracker with mask := [⟨2, inTransit⟩] }, verifier := ⟨.idle, outcome⟩ }

/-- Transfers start on their conditions, into the lowest FREE slot, and not for a head in transit (R16, R17, R77). -/
theorem test_transfer_start :
    after (.transferStart .maskToInfeed) (atMask .pass false)
      (fun t => t.tracker.maskToInfeed == .inFlight 15000 0 && t.tracker.mask == [⟨2, true⟩]) = true ∧
    idle (.transferStart .maskToInfeed) (atMask .pass true) = true ∧
    after (.transferStart .maskToLane) (atMask .reject false)
      (fun t => t.tracker.maskToLane == .inFlight 15000 0 && t.holds.slots[(6 : SlotId)] == .reserved 2) = true ∧
    idle (.transferStart .maskToLane) (atMask .pass false) = true := by decide +kernel

def infeed (mode : LineMode) : State :=
  let s := withBoard (board .waitSpray none) (line mode)
  { s with tracker := { s.tracker with infeed := tag2, infeedToCell := flight 0 } }

def cool (verdict : Verdict) : State :=
  let s := withBoard { board .cooling none with verdict := verdict } (line .run)
  { s with tracker := { s.tracker with cool := [⟨2, false⟩] } }

theorem test_transfer_start_others :
    after (.transferStart .infeedToCell) { infeed .run with tracker := { (infeed .run).tracker with
      infeed := [⟨2, false⟩], infeedToCell := .idle } } (fun t => t.sequencer.cell == .loading) = true ∧
    after (.transferStart .cellToFlash) (cell .run fun q => { q with cell := .unloading })
      (fun t => t.tracker.cellToFlash == .inFlight 15000 0) = true ∧
    after (.transferStart .coolToExit) (cool .pass) (fun t => t.tracker.coolToExit == .inFlight 15000 0) = true ∧
    after (.transferStart .coolToSpur) { cool .hold with holds := ⟨(Vector.replicate 8 .free).set 0 .foreign, [], []⟩ }
      (fun t => t.tracker.coolToSpur == .inFlight 15000 1) = true := by decide +kernel

/-- MASK_TO_INFEED and CELL_TO_FLASH done (R18). -/
theorem test_transfer_done_lists :
    after (.transferDone 1) { atMask .pass true with tracker := { (atMask .pass true).tracker with
      maskToInfeed := flight 0 } } (fun t => t.tracker.infeed == [⟨2, false⟩] && t.tracker.mask == [] &&
        (t.record 2).stage == .waitSpray) = true ∧
    (let s := cell .run fun q => { q with cell := .unloading, index := 4 }
     after (.transferDone 4) { s with tracker := { s.tracker with cellToFlash := flight 0 } } (fun t =>
      t.tracker.flashOff == [⟨2, false⟩] && t.sequencer.cell == .idle && t.sequencer.index == 0 &&
        t.coverage.frames[(3 : FrameId)].state == .retained)) = true := by decide +kernel

/-- MASK_TO_LANE and COOL_TO_SPUR done: the board is HELD in its slot (R78, R154). -/
theorem test_hold_done :
    after (.transferDone 2) { atMask .reject true with tracker := { (atMask .reject true).tracker with
      maskToLane := flight 1 } } (fun t => (t.record 2).location == .slot 7 &&
        t.holds.slots[(7 : SlotId)] == .assigned 2 && t.holdOrder == [2]) = true ∧
    after (.transferDone 6) { cool .hold with tracker := { (cool .hold).tracker with
      cool := tag2, coolToSpur := flight 5 } } (fun t => (t.record 2).location == .slot 5 &&
        (t.record 2).stage == .held && t.tracker.cool == []) = true := by decide +kernel

/-- In DRAIN the last board to leave transport ends the mode, with LINE_MODE READY from DRAIN (R11, R170). -/
theorem test_drain_ends :
    let drained (s : State) : State := { s with line := ⟨.drain, none⟩ }
    let ends (code : Byte) (entry : Nat) (s : State) : Bool := after (.transferDone code) (drained s) fun t =>
      t.line.mode == .ready && [entry, entry + 2, entry + 3].map t.exchange.mem.read == [18, 4, 3]
    ends 2 0x1030 { atMask .reject true with tracker := { (atMask .reject true).tracker with
      maskToLane := flight 1 } } = true ∧
    ends 5 0x1020 { cool .pass with tracker := { (cool .pass).tracker with
      cool := tag2, coolToExit := flight 0 } } = true ∧
    ends 6 0x1030 { cool .hold with tracker := { (cool .hold).tracker with
      cool := tag2, coolToSpur := flight 5 } } = true := by decide +kernel

/-- A recoat board at the mask lane keeps its frame, and stands in the hold order behind one held before it and ahead
of one with the same held time and a higher tag (R79, R158). -/
theorem test_hold_order :
    let s := (withBoard { board .maskCheck (some 6) with pass := 2 } (atMask .reject true)).setRecord 4
      { board .held none with heldTime := some 10000 }
    let s := s.setRecord 9 { board .held none with heldTime := some 9000 }
    let s : State := { s with
      tracker := { s.tracker with maskToLane := flight 0 }
      coverage := ⟨s.coverage.frames.set 6 ⟨.reserved, some 2, some 2⟩⟩
      holds := { s.holds with since := [9, 4] } }
    after (.transferDone 2) s (fun t => t.holds.since == [9, 2, 4] && t.verifier.outcome == .none &&
      t.coverage.frames[(6 : FrameId)] == ⟨.retained, some 2, some 2⟩) = true := by decide +kernel

/-- INFEED_TO_CELL done in FAULTED, FREEZE and RUN; frame 0 becomes ACTIVE (R85, R110). -/
theorem test_spray_start :
    after (.transferDone 3) (infeed .faulted) (fun t => t.sequencer.cell == .stopped && (t.record 2).reasons == 16) =
      true ∧
    after (.transferDone 3) (infeed .freeze) (fun t => t.sequencer.cell == .paused) = true ∧
    after (.transferDone 3) (infeed .run) (fun t => t.sequencer.phase == .sent && (t.record 2).lastSegment == some 0 &&
      t.coverage.frames[(0 : FrameId)] == ⟨.active, some 2, some 1⟩) = true := by decide +kernel

/-- A board of pass 2 has its own frame made ACTIVE, whose cells stand (R110). -/
theorem test_own_frame :
    let s : State := { ((infeed .run).setRecord 2 { board .waitSpray (some 6) with pass := 2 }) with
      coverage := ⟨(line .run).coverage.frames.set 6 ⟨.reserved, some 2, some 2⟩⟩ }
    let s := s.writeMem (cellAt 6 (0, 0)) [9]
    after (.transferDone 3) s (fun t => t.coverage.frames[(6 : FrameId)] == ⟨.active, some 2, some 2⟩ &&
      t.coverage.frames[(0 : FrameId)].state == .free && t.exchange.mem.cell 6 (0, 0) == 9) = true := by decide +kernel

/-- With no FREE frame, the flash-off board's RETAINED frame is reclaimed (R111). -/
theorem test_reclaim :
    let s := (infeed .run).setRecord 4 (board .flashOff (some 7))
    let s := { s with
      tracker := { s.tracker with flashOff := [⟨4, false⟩] }
      coverage := ⟨Vector.replicate 8 ⟨.retained, some 4, some 1⟩⟩ }
    s.reclaimOrder = [] ++ 4 :: [] ∧ (s.record 2).mapFrame = none ∧ s.canonical ∧
    after (.transferDone 3) s (fun t => (t.record 2).mapFrame == some 7 && (t.record 4).mapFrame == none) = true := by
  decide +kernel

/-- COOL_TO_EXIT done: the record is freed, its frame too, and the next head takes its verdict (R151, R152). -/
theorem test_cool_to_exit :
    let s := (withBoard (board .cooling (some 3)) (line .run)).setRecord 5 { board .cooling none with reasons := 32 }
    let s := { s with
      tracker := { s.tracker with cool := [⟨2, true⟩, ⟨5, false⟩], coolToExit := flight 0 }
      coverage := ⟨s.coverage.frames.set 3 ⟨.retained, some 2, some 1⟩⟩ }
    after (.transferDone 5) s (fun t => !(t.record 2).valid && (t.record 5).verdict == .hold &&
      t.coverage.frames[(3 : FrameId)].state == .free && t.tracker.cool == [⟨5, false⟩]) = true := by decide +kernel

/-- A fault or a passed deadline faults the route; an answer with no transfer is ignored (R19, R20). -/
theorem test_transfer_fault :
    let s := { atMask .pass true with tracker := { (atMask .pass true).tracker with maskToInfeed := flight 0 } }
    after (.transferFault 1) s (fun t => t.tracker.maskToInfeed == .faulted && t.line == ⟨.faulted, some .transfer⟩) =
      true ∧
    after (.transferDeadlineExpiry .maskToInfeed) s (fun t => t.tracker.maskToInfeed == .faulted) = true ∧
    idle (.transferDeadlineExpiry .maskToInfeed) { s with lineTime := 8999 } = true ∧
    idle (.transferDone 2) s = true ∧ idle (.transferDone 0) s = true ∧ idle (.transferFault 7) s = true := by
  decide +kernel

/-! ### The spray cell -/

/-- SEG_STARTED: a MOVE only starts; WARN opens the valve; INTERLOCK in band opens it, out of band aborts (R90). -/
theorem test_seg_started :
    let sent (g : Segment) (m : PressureState) := cell .run fun q => monitored m (holding g false .sent q)
    after (.segStarted 2 0) (sent move .low) (fun t => t.sequencer.phase == .started && t.sequencer.valve == none) =
      true ∧
    after (.segStarted 2 0) (sent (wet 0) .low) (fun t => t.sequencer.valve == some 0) = true ∧
    after (.segStarted 2 0) (sent (wet 1) .inBand) (fun t => t.sequencer.valve == some 1 &&
      t.sequencer.preStart == some 300) = true ∧
    after (.segStarted 2 0) (sent (wet 1) .low) (fun t => t.sequencer.cell == .stopped &&
      t.sequencer.stopApplicator == some 1) = true ∧
    idle (.segStarted 3 0) (sent (wet 0) .low) = true ∧ idle (.segStarted 2 1) (sent (wet 0) .low) = true := by
  decide +kernel

def flowing (mode : LineMode) (index : Nat) : State :=
  cell mode fun q => { holding (wet 0) false .started q with
    index := index, valve := some 0, valveStart := some 9200, preStart := some 280 }

/-- SEG_DONE in RUN fetches the next segment, in FREEZE pauses, and at the program's end ends the path; 800 ms
at flow 150, duty 4, 280 kPa over 8 cells would lay 9333 fu, clamped to 4095 (R91, R119). -/
theorem test_seg_done :
    after (.segDone 2 0) (flowing .run 0) (fun t => t.sequencer.index == 1 && t.sequencer.phase == .sent &&
      t.sequencer.valve == none && t.exchange.mem.cell 3 (1, 1) == 4095 && t.exchange.mem.cell 3 (5, 1) == 0) = true ∧
    after (.segDone 2 0) (flowing .freeze 0) (fun t => t.sequencer.cell == .paused && t.sequencer.segment == none) =
      true ∧
    after (.segDone 2 3) (flowing .freeze 3) (fun t => t.sequencer.cell == .unloading &&
      (t.record 2).sprayEnd == some 10000) = true ∧
    idle (.segDone 2 0) (cell .run (holding (wet 0) false .sent)) = true := by decide +kernel

/-- Motion failures and the guard abort; a deadline still ahead does not (R96, R98). -/
theorem test_aborts :
    after (.motionFault [1, 2]) (flowing .run 0) (fun t => t.sequencer.cell == .stopped && t.sequencer.valve == none &&
      t.sequencer.stopCause == some .motion && (t.record 2).reasons == 16) = true ∧
    idle (.motionFault []) (cell .run id) = true ∧
    after .segmentDeadlineExpiry (flowing .run 0) (fun t => t.sequencer.cell == .stopped) = true ∧
    idle .segmentDeadlineExpiry { flowing .run 0 with lineTime := 8999 } = true ∧
    after (.guard 1) (flowing .run 0) (fun t => t.sequencer.stopCause == some .guard) = true ∧
    after (.guard 1) (cell .run fun q => { q with cell := .unloading }) (fun t => t.sequencer.cell == .unloading &&
      t.sequencer.guard == .opened) = true ∧ (flowing .run 0).cellBoard = some 2 := by decide +kernel

/-- A closing guard lets the cell leave PAUSED in RUN, not in FREEZE (R102). -/
theorem test_guard_closes :
    let paused (mode : LineMode) (f : Sequencer → Sequencer) :=
      cell mode fun q => f { q with cell := .paused, guard := .opened }
    after (.guard 2) (paused .run id) (fun t => t.sequencer.cell == .running && t.sequencer.phase == .sent) = true ∧
    after (.guard 2) (paused .freeze id) (fun t => t.sequencer.cell == .paused && t.sequencer.guard == .closed) = true ∧
    after (.guard 2) (paused .drain fun q => monitored .inBand (holding (wet 1) false .waiting q))
      (fun t => t.sequencer.cell == .running && t.sequencer.phase == .sent) = true ∧
    after (.guard 2) (paused .drain fun q => monitored .high (holding (wet 1) false .waiting q))
      (fun t => t.sequencer.cell == .interlocked) = true ∧
    idle (.guard 1) (paused .run id) = true ∧ idle (.guard 0) (paused .run id) = true ∧
    idle (.guard 2) (line .run) = true := by decide +kernel

/-- The four ways of a fetch: a MOVE is sent, a KEEP_OUT band runs dry or ends the path, an INTERLOCK applicator out
of band waits (R86-R88). -/
theorem test_fetch :
    let at' (i : Nat) (m : PressureState) := cell .run fun q => monitored m { q with index := i }
    (((at' 1 .low).fetch 2).sequencer.phase == .sent) = true ∧
    (((at' 2 .low).fetch 2).sequencer.segment == some ⟨corner, true⟩ &&
      (((at' 2 .low).fetch 2).record 2).firstConflict == some 2) = true ∧
    (((at' 3 .low).fetch 2).sequencer.cell == .interlocked) = true ∧
    (((at' 3 .inBand).fetch 2).sequencer.phase == .sent) = true ∧
    ((((at' 0 .low).modifyRecord 2 fun b => { b with recipe := 1 }).fetch 2).sequencer.cell == .unloading) = true ∧
    recipe0.bandCells corner = [(6, 0)] ++ (7, 0) :: [] := by decide +kernel

/-- RESUME_CELL: its refusals, and the path that it ends (R103). -/
theorem test_resume :
    let stopped (f : Sequencer → Sequencer) := cell .faulted fun q =>
      f { q with cell := .stopped, stopCause := some .pressure, stopApplicator := some 1 }
    completes .resumeCell (card 13 []) (stopped id) .refusedRange = true ∧
    completes .resumeCell (card 13 [32]) (stopped id) .refusedRange = true ∧
    completes .resumeCell (card 13 [2]) (cell .run id) .refusedState = true ∧
    completes .resumeCell (card 13 [31]) (stopped (monitored .inBand)) .refusedState = true ∧
    completes .resumeCell (card 13 [2]) (stopped fun q => { q with guard := .opened }) .refusedState = true ∧
    completes .resumeCell (card 13 [2]) (stopped (monitored .low)) .refusedState = true ∧
    after .resumeCell (next (card 13 [2]) (stopped (monitored .inBand))) (fun t => t.sequencer.cell == .unloading) =
      true := by decide +kernel

/-- The monitor of applicator 1, band 260-340, after a sample: the band and its margin of 5 (R93). -/
def judged (m : PressureState) (p : Half) : PressureState :=
  match exec (.pressure 1 p) (cell .run (monitored m)) with
  | .next t => t.sequencer.monitors[1].state
  | _ => .unknown

theorem test_pressure_band :
    [259, 260, 340, 341].map (judged .inBand) = [.low, .inBand, .inBand, .high] ∧
    [264, 265, 335, 336].map (judged .low) = [.low, .inBand, .inBand, .high] := by decide +kernel

/-- A sample into band resumes an INTERLOCKED cell, one out of band trips an open valve, an applicator above 3 is
ignored, and silence makes the monitor UNKNOWN (R93, R94). -/
theorem test_pressure_cell :
    let waiting := cell .run fun q => monitored .low { holding (wet 1) false .waiting q with cell := .interlocked }
    let spraying := cell .run fun q => monitored .inBand { holding (wet 1) false .started q with valve := some 1 }
    after (.pressure 1 300) waiting (fun t => t.sequencer.cell == .running && t.sequencer.phase == .sent) = true ∧
    after (.pressure 1 0xFFFF) spraying (fun t => t.sequencer.cell == .stopped &&
      t.sequencer.monitors[1].lastSample == some 1023) = true ∧
    after (.pressure 1 300) spraying (fun t => t.sequencer.monitors[1].sum == 300 &&
      t.sequencer.monitors[1].count == 1) = true ∧
    idle (.pressure 4 300) spraying = true ∧
    after (.pressure 2 300) spraying (fun t => t.sequencer.monitors[2] == ⟨.unknown, some 300, some 11000, 0, 0⟩) =
      true ∧
    after (.pressureSilenceDeadlineExpiry 1) spraying (fun t => t.sequencer.monitors[1].state == .unknown &&
      t.sequencer.cell == .stopped) = true ∧
    idle (.pressureSilenceDeadlineExpiry 1) { spraying with lineTime := 8999 } = true ∧
    idle (.pressureSilenceDeadlineExpiry 0) spraying = true := by decide +kernel

/-- A sample that fills the 48 bits of the sum and the 32 of the count, and one beyond the sum, which still counts
(R118). -/
theorem test_pressure_widths :
    let full (sum : BitVec 48) := cell .run fun q => { holding (wet 1) false .started q with
      valve := some 1, monitors := q.monitors.set 1 ⟨.inBand, some 300, some 9000, sum, 0xFFFFFFFE⟩ }
    after (.pressure 1 300) (full (0#48 - 301)) (fun t => t.sequencer.monitors[1].sum.toNat == 2 ^ 48 - 1 &&
      t.sequencer.monitors[1].count.toNat == 2 ^ 32 - 1) = true ∧
    after (.pressure 1 300) (full (0#48 - 300)) (fun t => t.sequencer.monitors[1].count.toNat == 2 ^ 32 - 1) = true := by
  decide +kernel

/-! ### Deposit and evaluation -/

/-- The spec's worked deposit, and the rounding at half (R119). -/
theorem test_increment : increment 150 800 4 280 80 100 300 160 = 700 ∧ increment 1 1 1 0 1 50 50 1 = 0 ∧
    increment 4095 65535 8 1023 100 150 50 1 = 4095 := by decide

/-- A deposit of 100 fu: MASKED cells keep their film, off-band cells too, and 4095 saturates (R120). -/
theorem test_deposit :
    let results := (Vector.replicate 8 MaskResult.unread).set 0 .present
    depositCell (recipe1.effectiveClass results (1, 1)) 7 100 = 7 ∧
    depositCell (recipe1.effectiveClass results (2, 1)) 7 100 = 107 ∧
    depositCell (recipe0.effectiveClass results (2, 1)) 4000 100 = 4095 ∧
    recipe0.effectiveClass results (7, 0) = .keepOut ∧ recipe1.effectiveClass (Vector.replicate 8 .absent) (1, 1) = .keepOut := by
  decide

theorem test_witness_deposit :
    let s := flowing .run 0
    s.canonical ∧ (s.record 2).mapFrame = some 3 ∧ (wet 0).band = some ⟨1, 4, 1, 2⟩ ∧ (s.boardRecipe 2).columns ≤ 64 ∧
      (s.boardRecipe 2).rows ≤ 48 := by decide +kernel

/-- The judgement of R123 at its bounds, with solids 50 and the window 100-400. -/
theorem test_judge_film : [199, 200, 801, 802, 4095].map (fun w => judgeFilm w 50 100 400) =
    [.thin, .good, .good, .thick, .thick] := by decide

/-- An unsprayed map: the 47 COAT cells of recipe 0 are thin, the first at column 0, row 0 (R122). -/
theorem test_evaluation : (flowing .run 0).evaluation 2 = ⟨47, 0, some (0, 0)⟩ := by decide +kernel

/-! ### Flash-off, oven and exit -/

/-- Tag 2 in flash-off, done, with the spacing travelled, and a number of boards in the oven and the cool list. -/
def ready (oven cool : Nat) (mode : LineMode) : State :=
  let s := withBoard (board .flashOff none) (line mode)
  { s with
    tracker := { s.tracker with
      flashOff := [⟨2, false⟩]
      cool := (List.range cool).map fun i => ⟨Fin.ofNat 32 (20 + i), false⟩
      flash := s.tracker.flash.set 2 (some ⟨some 9000, true, some 9000⟩) }
    cure := { s.cure with oven := (List.range oven).map (Fin.ofNat 32 <| 6 + ·), spacing := 400 } }

/-- The gate at the bounds of its conditions (R131). -/
theorem test_gate :
    ([(11, 2, LineMode.run), (12, 2, .run), (11, 3, .run), (0, 0, .ready)].map fun p =>
      (ready p.1 p.2.1 p.2.2).driveGate.cure.gate) = [.opened, .closed, .closed, .closed] := by decide +kernel

/-- Flash-off, open-time, recoat and oven silence deadlines, reached and one millisecond before (R127, R128, R141,
R164). -/
theorem test_deadlines :
    let s := ready 0 0 .run
    let watched := withBoard { board .held none with recoatOpen := true, recoatDeadline := some 10000 } (line .run)
    let quiet : State := { withBoard (board .curing none) (line .run) with
      cure := { Cure.reset with oven := [2], silence := some 10000 } }
    after (.flashOffDeadlineExpiry 2) s (fun t => t.cure.gate == .opened) = true ∧
    idle (.flashOffDeadlineExpiry 2) { s with lineTime := 8999 } = true ∧ idle (.flashOffDeadlineExpiry 3) s = true ∧
    after (.openTimeDeadlineExpiry 2) s (fun t => (t.record 2).reasons == 32) = true ∧
    idle (.openTimeDeadlineExpiry 2) { s with lineTime := 8999 } = true ∧
    after (.recoatExpired 2) watched (fun t => !(t.record 2).recoatOpen) = true ∧
    idle (.recoatExpired 2) { watched with lineTime := 9999 } = true ∧
    after .ovenSilent quiet (fun t => t.cure.sampling == .silent && (t.record 2).reasons == 512) = true ∧
    idle .ovenSilent { quiet with lineTime := 9999 } = true := by decide +kernel

/-- Entry through the open gate, and with the gate closed, with and without a head (R133, R134). -/
theorem test_entry :
    let s := { ready 3 0 .run with cure := { (ready 3 0 .run).cure with gate := .opened } }
    after .entrySeen s (fun t => t.cure.oven == [6, 7, 8, 2] && t.cure.gate == .closed && t.cure.spacing == 0 &&
      (t.record 2).stage == .curing && t.tracker.flashOff == []) = true ∧
    after .entrySeen (ready 3 0 .run) (fun t => t.line == ⟨.faulted, some .unknownAtEntry⟩ &&
      t.exchange.mem.read 0x1015 == 2 && t.exchange.mem.read 0x1016 == 1) = true ∧
    after .entrySeen (line .run) (fun t => t.exchange.mem.read 0x1015 == 0xFF && t.exchange.mem.read 0x1016 == 2) =
      true := by decide +kernel

/-- Tag 2 in the oven at a position and a dose. -/
def curing (position dose : Nat) (cool : Nat) : State :=
  let s := withBoard { board .curing none with position := position, dose := dose } (line .run)
  { s with
    cure := { s.cure with oven := [2], zones := Vector.replicate 6 ⟨128, 2, true⟩ }
    tracker := { s.tracker with cool := (List.range cool).map fun i => ⟨Fin.ofNat 32 (20 + i), false⟩ } }

/-- A sample of 128 degrees and delta 25: weight 8 in zone 1; at E1 the next zone; in the run-out no weight; a third
FAULT in a row leaves the zone UNVERIFIED (R138-R140). -/
theorem test_sample :
    let read (z : Half) : Vector Half 6 := Vector.replicate 6 z
    after (.ovenSample (read 128) 25) (curing 0 0 0) (fun t => (t.record 2).position == 25 && (t.record 2).dose == 8 &&
      (t.record 2).reasons == 0 && t.cure.spacing == 25) = true ∧
    after (.ovenSample (read 0xFFFF) 25) (curing 2975 0 0) (fun t => (t.record 2).position == 3000 &&
      (t.record 2).reasons == 512 && !t.cure.zones[1].verified) = true ∧
    after (.ovenSample (read 182) 25) (curing 2974 0 0) (fun t => (t.record 2).dose == 12 &&
      (t.record 2).reasons == 256) = true ∧
    after (.ovenSample (read 128) 0xFFFF) (curing 17000 5 0) (fun t => (t.record 2).position == 21095 &&
      (t.record 2).dose == 5) = true := by decide +kernel

theorem test_witness_sample :
    let s := curing 0 0 0
    s.idlePort .oven ∧ s.cure.oven.Nodup ∧ s.zoneEnd 0 = 0 ∧ s.zoneEnd 1 = 3000 ∧ s.zoneEnd 6 = 18000 := by
  decide +kernel

/-- Exits: an empty oven, a good board, one at each judgement's bound, and the overrun (R142-R146). -/
theorem test_exit :
    after .exitSeen (line .run) (fun t => t.line == ⟨.faulted, some .unknownAtExit⟩) = true ∧
    after .exitSeen (curing 18060 3600 2) (fun t => (t.record 2).reasons == 0 && t.tracker.cool.length == 3 &&
      (t.record 2).verdict == .none && (t.record 2).recoatDeadline == some 1810000) = true ∧
    after .exitSeen (curing 17939 4201 0) (fun t => (t.record 2).reasons == 1024 + 128 &&
      (t.record 2).verdict == .hold) = true ∧
    after .exitSeen (curing 18000 3599 0) (fun t => (t.record 2).reasons == 64) = true ∧
    after .exitSeen (curing 18000 4000 0) (fun t => (t.record 2).verdict == .pass) = true ∧
    after .exitSeen (curing 18000 4000 3) (fun t => (t.record 2).reasons == 4096 && (t.record 2).stage == .held &&
      t.cure.ovenStop && t.line == ⟨.faulted, some .exitOverrun⟩ && t.tracker.cool.length == 3) = true := by
  decide +kernel

/-- An overrun sends OVEN_STOP, and ENTRY_GATE(CLOSED) where the gate stood OPEN (R146). -/
theorem test_overrun_frames :
    let s := curing 18000 4000 3
    after .exitSeen { s with cure := { s.cure with gate := .opened } } (fun t => t.ports.oven.waiting ==
      [.entryGate .closed, .ovenStop false, .ovenStop true, .entryGate .closed] && t.holds.since == [2]) = true := by
  decide +kernel

/-! ### Holds -/

def heldAt (l : Location) : State :=
  let s := withBoard { board .held (some 3) with
    verdict := .hold, location := l, heldTime := some 500, recoatOpen := true, sprayStart := some 100 } (line .run)
  { s with
    coverage := ⟨s.coverage.frames.set 3 ⟨.retained, some 2, some 1⟩⟩
    holds := ⟨match l with | .slot n => s.holds.slots.set n (.assigned 2) | _ => s.holds.slots, [], [2]⟩ }

/-- The table of R156, OCCUPIED then EMPTY, for FREE, RESERVED, ASSIGNED and FOREIGN, and a slot above 7. -/
theorem test_slot_state :
    let slot (v : SlotState) : State := { line .run with holds := ⟨(Vector.replicate 8 .free).set 7 v, [], []⟩ }
    (([SlotState.free, .reserved 2, .assigned 2, .foreign].map fun v => [(1 : Byte), 2].map fun r =>
      after (.slotState 7 r) (slot v) fun t => t.holds.slots[(7 : SlotId)] != v) =
        [[true, false], [false, false], [false, true], [false, true]]) ∧
    idle (.slotState 8 1) (slot .free) = true ∧ idle (.slotState 7 3) (slot .free) = true ∧
    after (.slotState 4 2) (heldAt (.slot 4)) (fun t => (t.record 2).location == .removed) = true := by decide +kernel

def disposeBody (tag action serial : Byte) : List Byte := pad 8 [tag, action] ++ [serial, 0x12, 0, 0, 0, 0, 0, 0]

theorem test_dispose :
    completes .disposeScrap (card 10 (disposeBody 3 2 0x34)) (heldAt (.slot 4)) .refusedUnknown = true ∧
    completes .disposeScrap (card 10 (disposeBody 2 2 0x35)) (heldAt (.slot 4)) .refusedUnknown = true ∧
    completes .disposeScrap (card 10 (disposeBody 2 2 0x34)) (cell .run id) .refusedState = true ∧
    after .disposeScrap (next (card 10 (disposeBody 2 2 0x34)) (heldAt (.slot 4))) (fun t => !(t.record 2).valid &&
      t.holds.slots[(4 : SlotId)] == .foreign && t.holdOrder == [] && t.coverage.frames[(3 : FrameId)].state == .free) =
        true ∧
    after .disposeRelease (next (card 10 (disposeBody 2 1 0x34)) (heldAt .removed)) (fun t => !(t.record 2).valid &&
      t.holds.slots == (heldAt .removed).holds.slots) = true ∧
    idle .disposeRelease (next (card 10 (disposeBody 2 2 0x34)) (heldAt .removed)) = true := by decide +kernel

/-- RECOAT: an entry of pass 2 with frame 3 RESERVED; the checks of R162 in order. -/
theorem test_recoat :
    let c := card 10 (disposeBody 2 3 0x34)
    let change (f : BoardRecord → BoardRecord) : State := (heldAt (.slot 4)).modifyRecord 2 f
    after .disposeRecoat (next c (heldAt (.slot 4))) (fun t => t.tracker.admissions == [⟨0x1234, 0, 2, some 3⟩] &&
      t.coverage.frames[(3 : FrameId)] == ⟨.reserved, none, some 2⟩ && !(t.record 2).valid) = true ∧
    completes .disposeRecoat c (change fun b => { b with sprayStart := none }) .refusedState = true ∧
    completes .disposeRecoat c (change fun b => { b with reasons := 8 }) .refusedState = true ∧
    completes .disposeRecoat c (change fun b => { b with mapFrame := none }) .refusedState = true ∧
    completes .disposeRecoat c (change fun b => { b with recipe := 5 }) .refusedState = true ∧
    completes .disposeRecoat c (change fun b => { b with pass := 2 }) .refusedRange = true ∧
    completes .disposeRecoat c (change fun b => { b with recoatOpen := false }) .refusedTooLate = true ∧
    completes .disposeRecoat c (admitted 16 (heldAt (.slot 4))) .refusedFull = true ∧
    completes .disposeRecoat c { heldAt (.slot 4) with coverage := ⟨(Vector.replicate 8 ⟨.reserved, none, some 2⟩).set 3
      ⟨.retained, some 2, some 1⟩⟩ } .refusedFull = true := by decide +kernel

theorem test_reclaim_map :
    completes .reclaimMap (card 11 []) (heldAt .none) .refusedRange = true ∧
    completes .reclaimMap (card 11 [32]) (heldAt .none) .refusedRange = true ∧
    completes .reclaimMap (card 11 [31]) (heldAt .none) .refusedUnknown = true ∧
    completes .reclaimMap (card 11 [2]) (withBoard (board .held none) (line .run)) .refusedUnknown = true ∧
    completes .reclaimMap (card 11 [2]) (cell .run id) .refusedState = true ∧
    after .reclaimMap (next (card 11 [2]) (heldAt .none)) (fun t => (t.record 2).mapFrame == none &&
      t.coverage.frames[(3 : FrameId)] == ⟨.free, none, none⟩) = true := by decide +kernel

/-! ### Faults, clear and restart -/

/-- A first fault stops a running cell; in LOST a fault is only logged (R171, R172). -/
theorem test_fault :
    let t := (flowing .drain 0).raiseFault .unknownAtExit none none 1
    t.line = ⟨.faulted, some .unknownAtExit⟩ ∧ t.sequencer.cell = .stopped ∧ t.exchange.attn.getLsbD 3 = true ∧
      (line .lost).raiseFault .unknownAtExit none none 1 = (line .lost).append (.fault .unknownAtExit false none none 1) := by
  decide +kernel

/-- DECLARE_CLEAR: refused in RUN and for a long body; in LOST it holds the board in the cell (R173, R174). -/
theorem test_declare_clear :
    completes .declareClear (card 12 []) (line .run) .refusedState = true ∧
    completes .declareClear ⟨3, 12, 77, 977, []⟩ (line .lost) .refusedRange = true ∧
    after .declareClear (next (card 12 []) (cell .faulted fun q => { q with cell := .stopped })) (fun t =>
      t.line == ⟨.ready, none⟩ && (t.record 2).reasons == 8192 && (t.record 2).stage == .held && t.tracker.cell == [] &&
        t.sequencer.cell == .idle && t.coverage.frames[(3 : FrameId)].state == .retained && t.holdOrder == [2]) =
          true := by decide +kernel

/-- A line clear with oven stop asserted and a RESERVED slot: the entries of steps 5, 6 and 8, the frames, and the
board's place among those held at the same time (R158, R174). -/
theorem test_clear_reports :
    let s := cell .faulted fun q => { q with cell := .stopped }
    let s := (s.setRecord 4 { board .held none with heldTime := some 10000 }).setRecord 9
      { board .held none with heldTime := some 9000 }
    let s : State := { s with
      cure := { s.cure with ovenStop := true }
      holds := ⟨s.holds.slots.set 5 (.reserved 2), [], [9, 4]⟩ }
    after .declareClear (next (card 12 []) s) (fun t => t.holds.since == [9, 2, 4] &&
      [0x1010, 0x1020, 0x1030].map t.exchange.mem.read == [15, 6, 18] &&
      t.ports.oven.waiting == [.entryGate .closed, .ovenStop false, .ovenStop false]) = true := by decide +kernel

/-- The spec's worked PIN reset (chapter 10): five records, one reserved frame, card 20 TAKEN and card 30 POSTED. -/
def fullLine : State :=
  let s := ((((line .run).setRecord 0 { board .held (some 4) with heldTime := some 6100000, location := .slot 2 }).setRecord
    3 (board .curing (some 1))).setRecord 5 (board .spraying (some 6))).setRecord 7
      { board .held none with heldTime := some 5900000, location := .removed }
  let s := (s.setRecord 9 { board .waitSpray (some 2) with pass := 2 }).setEntry 20 ⟨.taken, 0⟩
  (s.setEntry 30 ⟨.posted, 0⟩).setFrame 0 ⟨.reserved, none, some 2⟩

/-- What the worked sequence gives for the line after the restart. -/
def rebuilt (t : State) : Bool :=
  t.holdOrder == [3, 5, 9, 7, 0] && t.exchange.writeIndex == 7 &&
    (t.coverage.frames.toList.map (·.state)) ==
      [.free, .retained, .retained, .free, .retained, .free, .retained, .free] &&
    t.exchange.directory[(20 : CardId)] == ⟨.done, 12⟩ && t.exchange.directory[(30 : CardId)] == ⟨.posted, 0⟩ &&
    (t.record 9).reasons == 16384 && (t.record 0).heldTime == some 6100000 && (t.record 0).location == .none &&
    t.line.mode == .lost

theorem test_pin_reset :
    after (.pinReset (.restart 96)) fullLine (fun t => rebuilt t && t.exchange.mem.read 0x1004 == 3 &&
      ([0x1000, 0x1010, 0x1020, 0x1060].map fun a => t.exchange.mem.read a) == [18, 1, 14, 14] &&
      ([0x1012, 0x1022, 0x1062].map fun a => t.exchange.mem.read a) == [20, 0, 9]) = true := by decide +kernel

/-- START_STATUS holds POWER_ON before. A PIN and a SUPPLY_DIP that overlap set both bits, and the restart is of kind
SUPPLY_DIP; a POWER_ON clears both (R44, R175). -/
theorem test_overlap :
    after (.supplyDipReset (.restart 96)) fullLine (fun t => t.exchange.startStatus == 0b011) = true ∧
    after (.supplyDipReset (.restart 96)) (following fullLine [.pinReset .held]) (fun t =>
      rebuilt t && t.exchange.startStatus == 0b111 && t.exchange.mem.read 0x1004 == 2) = true ∧
    after (.pinReset (.restart 96)) (following fullLine [.supplyDipReset .held]) (fun t =>
      t.exchange.startStatus == 0b111 && t.exchange.mem.read 0x1004 == 2) = true ∧
    after (.pinReset (.restart 96)) (following fullLine [.powerOnReset .held]) (fun t =>
      t == State.reset) = true ∧ fullLine.canonical := by decide +kernel

/-- A restart cut off after card 20 begins again with the kind of the new reset. -/
theorem test_abandoned :
    let s := following fullLine [.supplyDipReset (.restart 40)]
    s.start = .restarting 40 ∧ s.exchange.writeIndex = 2 ∧
    after (.pinReset (.restart 96)) s (fun t => t.exchange.mem.read 0x1004 == 3 && t.exchange.writeIndex == 6 &&
      t.holdOrder == [3, 5, 9, 7, 0] && t.exchange.directory[(20 : CardId)] == ⟨.done, 12⟩) = true := by decide +kernel

/-- No host access is served while the part is held or restarts; an event that meets a restart is taken at its end
(R175). -/
theorem test_unserved :
    let cut := following fullLine [.pinReset (.restart 40)]
    let held := following fullLine [.pinReset .held]
    idle (.posting 1 0) cut = true ∧ idle (.attnWrite 31) held = true ∧ idle (.hostMemoryWrite 0x40 5) cut = true ∧
    held.readRegister 0 = 0 ∧ cut.readRegister 0 = 0 ∧ fullLine.readRegister 0 = 0x00010740 ∧
    idle .lineTimeTick held = true ∧ held.ports.oven.waiting = [] ∧
    after .lineTimeTick cut (fun t => rebuilt t && t.start == .running && t.lineTime == 1) = true := by decide +kernel

theorem test_tick : after .lineTimeTick { State.reset with lineTime := 0xFFFFFFFF } (fun t => t.lineTime == 0) = true := by
  decide +kernel

/-! ### Field ports -/

/-- The spec's worked frames (chapter 11). -/
theorem test_frames : (Message.halt).frame.bytes = [0x02, 0x00, 0x2A] ∧
    (Message.entryGate .opened).frame.bytes = [0x31, 0x01, 0x01, 0x98] := by decide +kernel

/-- The levels of 0x41, start bit to stop bit, and a byte read from its levels (R180). -/
theorem test_levels :
    byteLevels 0x41 = [false, true, false, false, false, false, false, true, false, true] ∧
    dataBits (byteLevels 0xA6) = 0xA6 ∧ hasStopBit (byteLevels 0) = true ∧ hasStopBit unstopped = false := by
  decide +kernel

/-- A good frame, whole and byte by byte from a receiver that waits for its check byte; a damaged one; an abandoned
one; a missing stop bit; and the bytes that follow while it discards (R181-R183). -/
theorem test_receive :
    let good := Frame.bytes ⟨0xA6, [1]⟩
    let s := line .run
    (Frame.command .station ⟨0xA6, [1]⟩ = some (.guard 1)) ∧ (Frame.command .oven ⟨0xA6, [1]⟩ = none) ∧
    after (.frameDiscarded .station good) s (fun t => t.sequencer.guard == .opened && t.receiver .station == .awaitKind) =
      true ∧
    idle (.frameDiscarded .station [0xA6, 1, 2, 0]) s = true ∧ idle (.frameAbandoned .station [0xA6, 1, 2]) s = true ∧
    after (.frameDiscarded .station [0xA6, 33, 2, 0]) s (fun t => t.receiver .station == .discarding) = true ∧
    after (.missingStopBit .station [0xA6]) s (fun t => t.receiver .station == .discarding &&
      idle (.guard 1) t && after (.frameAbandoned .station []) t (fun u => u == s)) = true := by decide +kernel

/-- Messages with a code that section 11.3 does not define have no effect (R183). -/
theorem test_undefined_codes :
    ([Instr.arrival 0 5, .arrival 3 5, .maskResult 0 0, .maskResult 0 3, .slotState 7 0, .guard 0, .guard 3].all fun c =>
      c.codesDefined == false && idle c verifying) = true := by decide +kernel

/-- The frame of a wet segment, for a film head, and of a transfer to spur slot 5 (R89, section 11.3). -/
theorem test_part_frames :
    (Message.segRun 31 511 (.pass 3 .plusY 63 47 64 8 150 500) true .film).frame =
      ⟨0x01, [31, 0xFF, 0x01, 1, 1, 3, 2, 63, 47, 3, 64, 8, 0xF4, 0x01, 0, 0]⟩ ∧
    (Message.transfer .coolToSpur 5).frame = ⟨0x23, [6, 5]⟩ := by decide

/-- A transmitter sends its frames in order, and a frame issued while 32 wait is dropped (R184). -/
theorem test_transmit :
    after (.frameTransmit .oven) State.reset (fun t => t.ports.oven.line == lineLevels (Frame.bytes ⟨0x31, [2]⟩) &&
      t.ports.oven.waiting == [.ovenStop false]) = true ∧
    (let full : State := (List.range 40).foldl (fun s _ => s.send .halt) State.reset
     full.ports.motion.waiting.length) = 32 ∧
    idle (.frameTransmit .motion) { State.reset with ports := { Ports.reset with motion := ⟨.awaitKind, [], []⟩ } } =
      true := by decide +kernel

/-! ### The laws hold where work is in progress -/

theorem test_witness_canonical : (flowing .run 0).canonical ∧ (flowing .run 0).pending = [] := by decide +kernel

theorem test_witness_film : (flowing .run 0).filmLaw := by
  intro f column row hc hr
  have h : ∀ m : Memory, (m.read (cellAt f (column, row))).toNat = 0 → (m.read (cellAt f (column, row) + 1)).toNat = 0 →
      m.cell f (column, row) ≤ 4095 := by
    intro m h1 h2
    simp [Memory.cell, h1, h2]
  apply h <;>
  · have h1 : 0x14000 ≤ cellAt f (column, row) := by simp only [cellAt]; omega
    simp only [flowing, cell, withBoard, line, State.setRecord, State.reset, Memory.read]
    rw [if_neg (by omega), if_neg (by omega), if_neg (by omega)]
    rfl

theorem test_witness_laws : (flowing .run 0).cellLaw ∧ (flowing .run 0).frameLaw ∧ (flowing .run 0).listLaw ∧
    (flowing .run 0).roomLaw ∧ (flowing .run 0).serialLaw := by
  refine ⟨?_, ?_, ?_, ?_, ?_⟩
  · constructor <;> decide +kernel
  · constructor <;> decide +kernel
  · constructor <;> decide +kernel
  · constructor <;> decide +kernel
  · simp only [State.serialLaw]; decide +kernel

/-- A step from a state that meets the laws: the front command runs, and the laws hold after it. -/
theorem test_witness_step :
    (match step { flowing .run 0 with pending := [.segDone 2 0, .scan 64] } with
      | .next t => t.pending == [.scan 64] && t.sequencer.index == 1
      | _ => false) = true ∧
    (match step (flowing .run 0) with
      | .next t => t == flowing .run 0
      | _ => false) = true ∧
    (flowing .run 0).validTags = [2] ∧ (flowing .run 0).recipeInUse 0 = true ∧
    (flowing .run 0).tables.programs[((flowing .run 0).recipe 0).program].state = .complete := by decide +kernel

/-- Receivers between frames and discarding are settled, and a well-formed command runs there; two good frames in one
ill-formed command make the tag of a board anew (R6, R8, R181). -/
theorem test_witness_settled : (flowing .run 0).receiversSettled ∧ (Instr.segDone 2 0).wellFormed = true ∧
    ((flowing .run 0).setReceiver .station .discarding).receiversSettled ∧
    (let s := (List.range 2).foldl (fun (s : State) i => s.setRecord (Fin.ofNat 32 i) (board .held none))
      { cool .pass with tracker := { (cool .pass).tracker with
        cool := tag2, coolToExit := flight 0, admissions := [⟨5, 0, 1, none⟩] } }
     let two := Instr.frameDiscarded .station (Frame.bytes ⟨0xA3, [5]⟩ ++ Frame.bytes ⟨0xA1, 1 :: le64 5⟩)
     two.wellFormed = false ∧ after two s (fun t => (t.record 2).valid && (t.record 2).serial == 5) = true) := by
  refine ⟨?_, by decide, ?_, by decide +kernel⟩ <;> intro p <;> cases p <;> decide +kernel

end Sys2Proof.Tests
end

section
/-! PROOFS. ATTN_EN and the interrupt line (R43): what an append does to the attention registers, what a restart
leaves in them, and the level of the line bit by bit. -/

namespace Sys2Proof.Machine

/-! ### The attention registers through an append and a completion (R39) -/

/-- An append sets one bit of ATTN: OVERFLOW where the list is full, and ACTIVITY otherwise. -/
theorem State.append_attn (s : State) (e : Activity) :
    (s.append e).exchange.attn = s.exchange.attn ||| (if s.listFull then attnOverflow else attnActivity) := by
  unfold State.append
  split <;> simp_all

@[simp] theorem State.append_attnEn (s : State) (e : Activity) :
    (s.append e).exchange.attnEn = s.exchange.attnEn := by
  unfold State.append
  split <;> simp

/-- A bit of ATTN that is set before an append is set after it. -/
theorem State.append_attn_set {s : State} {i : Nat} (e : Activity) (h : s.exchange.attn.getLsbD i = true) :
    (s.append e).exchange.attn.getLsbD i = true := by
  simp [State.append_attn, h]

@[simp] theorem State.completeAs_attnEn (s : State) (n : CardId) (kind : Byte) (tag : Word) (r : CardResult) :
    (s.completeAs n kind tag r).exchange.attnEn = s.exchange.attnEn := by
  simp [State.completeAs]

theorem State.completeAs_attn_set {s : State} {i : Nat} (n : CardId) (kind : Byte) (tag : Word) (r : CardResult)
    (h : s.exchange.attn.getLsbD i = true) : (s.completeAs n kind tag r).exchange.attn.getLsbD i = true := by
  unfold State.completeAs
  exact State.append_attn_set _ (by simpa using h)

/-! ### The attention registers through a restart (R176, R179) -/

@[simp] theorem State.visit_attnEn (s : State) (v : Visit) : (s.visit v).exchange.attnEn = s.exchange.attnEn := by
  cases v with
  | card n => simp only [State.visit, State.abortCard]; split <;> simp
  | board t => simp only [State.visit, State.reportHeld]; split <;> simp

theorem State.visit_attn_set {s : State} {i : Nat} (v : Visit) (h : s.exchange.attn.getLsbD i = true) :
    (s.visit v).exchange.attn.getLsbD i = true := by
  cases v with
  | card n =>
    simp only [State.visit, State.abortCard]
    split
    · exact State.completeAs_attn_set _ _ _ _ h
    · exact h
  | board t =>
    simp only [State.visit, State.reportHeld]
    split
    · exact State.append_attn_set _ h
    · exact h

@[simp] theorem State.visitAll_attnEn (s : State) (l : List Visit) :
    (s.visitAll l).exchange.attnEn = s.exchange.attnEn :=
  foldl_keeps (·.exchange.attnEn) State.visit State.visit_attnEn s l

theorem State.visitAll_attn_set {s : State} {i : Nat} (l : List Visit) (h : s.exchange.attn.getLsbD i = true) :
    (s.visitAll l).exchange.attn.getLsbD i = true := by
  induction l generalizing s with
  | nil => exact h
  | cons v l ih => exact ih (State.visit_attn_set v h)

/-- The conversion clears ATTN_EN, and the first entry leaves it so. -/
@[simp] theorem State.beginRestart_attnEn (s : State) (kind : ResetKind) :
    (s.beginRestart kind).exchange.attnEn = 0 := by
  simp [State.beginRestart, State.convert]

/-- The conversion sets ATTN.RESTART, and the first entry leaves it set. -/
theorem State.beginRestart_attn_restart (s : State) (kind : ResetKind) :
    (s.beginRestart kind).exchange.attn.getLsbD 4 = true :=
  State.append_attn_set _ (by simp [State.convert, attnRestart])

/-- However many visits the command names, a restart leaves ATTN_EN 0. -/
theorem State.resetBy_restart_attnEn (s : State) (cause : ResetKind) (visits : Nat) :
    (s.resetBy cause (.restart visits)).exchange.attnEn = 0 := by
  simp [State.resetBy]

/-- However many visits the command names, a restart leaves ATTN.RESTART set. -/
theorem State.resetBy_restart_attn_restart (s : State) (cause : ResetKind) (visits : Nat) :
    (s.resetBy cause (.restart visits)).exchange.attn.getLsbD 4 = true :=
  State.visitAll_attn_set (restartVisits.take visits) (State.beginRestart_attn_restart (s.noteCause cause) _)

/-! ### ATTN_EN and the line (R43) -/

/-- A served ATTN_EN_WRITE takes the five low bits of the word. -/
theorem exec_attnEnWrite_running {s : State} (h : s.running) (data : Word) :
    exec (.attnEnWrite data) s =
      .next { s with exchange := { s.exchange with attnEn := data.extractLsb' 0 5 } } := by
  change Host.Outcome.next (s.served (State.writeRegister 3 data)) = _
  rw [State.served_running h]
  rfl

/-- A served read of position 3 returns ATTN_EN, widened. -/
theorem State.readRegister_attnEn {s : State} (h : s.running) :
    s.readRegister 3 = s.exchange.attnEn.setWidth 32 :=
  State.servedRead_running h _

/-- A bit vector is not 0 exactly when one of its bits is set. -/
theorem bne_zero_iff_exists_bit {w : Nat} (x : BitVec w) : (x != 0) = true ↔ ∃ i : Fin w, x.getLsbD i = true := by
  rw [bne_iff_ne]
  constructor
  · intro hx
    by_contra hnone
    refine hx (BitVec.eq_of_getLsbD_eq fun i hi => ?_)
    simpa using fun hset => hnone ⟨⟨i, hi⟩, hset⟩
  · rintro ⟨i, hi⟩ rfl
    simp at hi

theorem State.interrupt_iff (s : State) :
    s.interrupt = true ↔
      ∃ i : Fin 5, s.exchange.attn.getLsbD i = true ∧ s.exchange.attnEn.getLsbD i = true := by
  simp only [State.interrupt, bne_zero_iff_exists_bit, BitVec.getLsbD_and, Bool.and_eq_true]

/-- With ATTN_EN 0 the line is released, whatever stands in ATTN. -/
theorem State.interrupt_released {s : State} (h : s.exchange.attnEn = 0) : s.interrupt = false := by
  simp [State.interrupt, h]

/-- A reset command whose restart runs is `resetBy` with its cause. -/
theorem exec_reset_restart {s t : State} {visits : Nat}
    (h : exec (.powerOnReset (.restart visits)) s = .next t ∨
      exec (.supplyDipReset (.restart visits)) s = .next t ∨
      exec (.pinReset (.restart visits)) s = .next t) :
    ∃ cause : ResetKind, t = s.resetBy cause (.restart visits) := by
  rcases h with h | h | h
  · exact ⟨.powerOn, (Host.Outcome.next.inj h).symm⟩
  · exact ⟨.supplyDip, (Host.Outcome.next.inj h).symm⟩
  · exact ⟨.pin, (Host.Outcome.next.inj h).symm⟩

/-- Settles O4: a write and a read of ATTN_EN by their equations, the line bit by bit, and the resets by what every
visit of a restart keeps. -/
theorem interruptLineFollowsAttnAndEnable : Obligations.InterruptLineFollowsAttnAndEnable := by
  refine ⟨fun data s hrun => ?write, fun s i hrun => ?read, State.interrupt_iff, fun s t n hreset => ?reset⟩
  case write =>
    refine ⟨_, exec_attnEnWrite_running hrun data, rfl, fun i => ?_⟩
    simp
  case read =>
    rw [State.readRegister_attnEn hrun, BitVec.getLsbD_setWidth]
    by_cases hi : i < 5
    · simp [hi, Nat.lt_trans hi (by decide : 5 < 32)]
    · simp [hi, BitVec.getLsbD_of_ge s.exchange.attnEn i (by omega)]
  case reset =>
    obtain ⟨cause, rfl⟩ := exec_reset_restart hreset
    have hen := State.resetBy_restart_attnEn s cause n
    exact ⟨hen, State.interrupt_released hen, State.resetBy_restart_attn_restart s cause n⟩

end Sys2Proof.Machine
end

section
/-! PROOFS. The Table Store's lookups and loads (chapter 3): the segment a fetch returns (R61), the checks that let a
card in range through (R33), the recipes in use (R46), and COATING_LOAD (R51, R52). -/

namespace Sys2Proof.Machine

/-! ### The fetch of a segment (R61) -/

/-- The patch is enabled and names segment i of program p. -/
def Patch.replaces (x : Patch) (p : ProgramId) (i : Nat) : Prop :=
  x.enabled = true ∧ x.program = p ∧ x.index = i

/-- The patch store's entries are those at its four places. -/
theorem State.mem_patches {s : State} {e : Option Patch} :
    e ∈ s.tables.patches.toList ↔ ∃ d : Fin 4, s.tables.patches[d] = e := by
  rw [Vector.mem_toList_iff, Vector.mem_iff_getElem]
  exact ⟨fun ⟨j, hj, h⟩ => ⟨⟨j, hj⟩, h⟩, fun ⟨d, h⟩ => ⟨d.val, d.isLt, h⟩⟩

/-- A fetch returns the record of a patch that replaces the segment, or, where none does, what the program stores. -/
theorem State.fetched_cases (s : State) (p : ProgramId) (i : Nat) :
    (∃ (d : Fin 4) (x : Patch), s.tables.patches[d] = some x ∧ x.replaces p i ∧ s.fetched p i = x.segment) ∨
      ((∀ (d : Fin 4) (x : Patch), s.tables.patches[d] = some x → ¬x.replaces p i) ∧
        s.fetched p i = (s.tables.programs[p].segments[i]?).getD Config.missingSegment) := by
  unfold State.fetched
  split
  next g hfound =>
    obtain ⟨e, hmem, he⟩ := List.exists_of_findSome?_eq_some hfound
    obtain ⟨d, rfl⟩ := State.mem_patches.mp hmem
    cases hx : s.tables.patches[d] with
    | none => simp [hx] at he
    | some x =>
      have hreplaces : x.replaces p i ∧ x.segment = g := by
        simpa [hx, Patch.replaces, and_assoc] using he
      exact .inl ⟨d, x, hx, hreplaces.1, hreplaces.2.symm⟩
  next hnone =>
    refine .inr ⟨fun d x hx hreplaces => ?_, rfl⟩
    obtain ⟨hen, hprogram, hindex⟩ := hreplaces
    have hskipped := List.findSome?_eq_none_iff.mp hnone (some x) (State.mem_patches.mpr ⟨d, hx⟩)
    simp [hen, hprogram, hindex] at hskipped

/-- Settles O17, by what a fetch can return: the patch returned is the only one that replaces the segment, and with
no such patch the stored segment is left. -/
theorem fetchReturnsThePatchedSegment : Obligations.FetchReturnsThePatchedSegment := by
  refine fun s p i => ⟨fun e x hx hen hprogram hindex honly => ?patched, fun hfree g hstored => ?stored⟩
  case patched =>
    obtain ⟨d, y, hy, ⟨hyen, hyprogram, hyindex⟩, hfetched⟩ | ⟨hnone, -⟩ := s.fetched_cases p i
    · obtain rfl := honly d y hy hyen hyprogram hyindex
      obtain rfl := Option.some.inj (hx.symm.trans hy)
      exact hfetched
    · exact absurd ⟨hen, hprogram, hindex⟩ (hnone e x hx)
  case stored =>
    obtain ⟨d, y, hy, ⟨hyen, hyprogram, hyindex⟩, -⟩ | ⟨-, hfetched⟩ := s.fetched_cases p i
    · simpa [hyen, hyprogram, hyindex] using hfree d y hy
    · rw [hfetched, hstored, Option.getD_some]

/-! ### The next taken card and its checks (R29, R33) -/

/-- The next taken card, where it is of the command's kind, is applied and completed. -/
theorem State.processCard_next {s : State} {c : TakenCard} {rest : List TakenCard} (h : s.nextCard c rest)
    {fits : TakenCard → Bool} (hfits : fits c = true) (apply : TakenCard → State → State × CardResult) :
    s.processCard fits apply = (apply c s).1.completeCard c rest (apply c s).2 := by
  obtain ⟨hrun, hcards⟩ := h
  simp [State.processCard, State.live_running hrun, hcards, hfits]

/-- No check of a list refuses. -/
def allPass (checks : List Check) : Prop := ∀ k ∈ checks, k.1 = false

theorem allPass_cons {k : Check} {l : List Check} : allPass (k :: l) ↔ k.1 = false ∧ allPass l :=
  List.forall_mem_cons

theorem allPass_nil : allPass [] := by simp [allPass]

theorem allPass_append {l m : List Check} : allPass (l ++ m) ↔ allPass l ∧ allPass m :=
  List.forall_mem_append

/-- Checks that all pass leave the judgement to those behind them. -/
theorem firstRefusal_append {l : List Check} (h : allPass l) (m : List Check) :
    firstRefusal (l ++ m) = firstRefusal m := by
  induction l with
  | nil => rfl
  | cons k l ih =>
    obtain ⟨hk, hl⟩ := allPass_cons.mp h
    simp [firstRefusal, hk, ih hl]

/-- Behind checks that pass, a check that refuses gives its result, and the card has no effect. -/
theorem judge_refused {l : List Check} (h : allPass l) (r : CardResult) (m : List Check)
    (apply : State → State × CardResult) (s : State) : judge (l ++ (true, r) :: m) apply s = (s, r) := by
  simp [judge, firstRefusal_append h, firstRefusal]

/-- A card whose checks all pass is applied. -/
theorem judge_passed {l : List Check} (h : allPass l) (apply : State → State × CardResult) (s : State) :
    judge l apply s = apply s := by
  have hnone : firstRefusal l = none := by simpa [firstRefusal] using firstRefusal_append h []
  simp [judge, hnone]

/-- A detail word that is 1 where a condition holds, and 0 otherwise. -/
theorem word_ite (p : Prop) [Decidable p] : word (if p then 1 else 0) = if p then 1 else 0 :=
  apply_ite word p 1 0

theorem outside_eq_false_iff {n lo hi : Nat} : outside n lo hi = false ↔ within n lo hi := by
  simp [outside, within]

theorem rangeCheck_passes_iff {offset n lo hi : Nat} : (rangeCheck offset n lo hi).1 = false ↔ within n lo hi :=
  outside_eq_false_iff

theorem TakenCard.badLength_eq_false_iff {c : TakenCard} {least : Nat} :
    c.badLength least = false ↔ c.longEnough least := by
  simp [TakenCard.badLength, TakenCard.longEnough, within, Config.maxBody]

theorem TakenCard.u8_lt (c : TakenCard) (offset : Nat) : c.u8 offset < 256 := (c.byteAt offset).isLt

theorem TakenCard.u16_lt (c : TakenCard) (offset : Nat) : c.u16 offset < 65536 := by
  have hlow := c.u8_lt offset
  have hhigh := c.u8_lt (offset + 1)
  simp only [TakenCard.u16]
  omega

/-! ### The recipes in use (R46) -/

/-- The lowest recipe in use that satisfies a condition is the first found. -/
theorem State.lowestInUse_eq (s : State) (p : Recipe → Bool) :
    s.lowestInUse p = Fin.find? fun id => s.recipeInUse id && p (s.recipe id) := by
  rw [Fin.find?_eq_find?_finRange]
  unfold State.lowestInUse allRecipes
  congr 1
  funext id
  cases hr : s.tables.recipes[id] with
  | none => simp [State.recipeInUse, hr]
  | some r => simp [State.recipe, hr]

/-- The search of `lowestInUse` finds the lowest user. -/
theorem State.lowestInUse_eq_some_iff {s : State} {p : Recipe → Bool} {id : RecipeId} :
    s.lowestInUse p = some id ↔ s.lowestUser (fun r => p r = true) id := by
  simp [State.lowestInUse_eq, State.lowestUser]

theorem State.lowestInUse_eq_none_iff {s : State} {p : Recipe → Bool} :
    s.lowestInUse p = none ↔ s.noUser fun r => p r = true := by
  simp [State.lowestInUse_eq, State.noUser]

/-- A loaded entry with a user is refused, and the result names the lowest. -/
theorem State.inUseCheck_refuses {s : State} {p : Recipe → Bool} {id : RecipeId}
    (huser : s.lowestUser (fun r => p r = true) id) :
    s.inUseCheck true p = (true, result .refusedInUse [id.val]) := by
  simp [State.inUseCheck, State.lowestInUse_eq_some_iff.mpr huser]

/-- An entry that is empty or without a user is not refused. -/
theorem State.inUseCheck_passes {s : State} {loaded : Bool} {p : Recipe → Bool}
    (h : loaded = false ∨ s.noUser fun r => p r = true) : (s.inUseCheck loaded p).1 = false := by
  unfold State.inUseCheck
  split
  next => rfl
  next id hsome =>
    refine h.resolve_right fun hno => ?_
    exact hno id (State.lowestInUse_eq_some_iff.mp hsome).1

/-! ### COATING_LOAD (R51, R52) -/

/-- Each cure band of a coating in range lies above the one before it and at most at 400. -/
theorem TakenCard.bandCheck_passes {c : TakenCard} (h : c.coatingFits) {b : Nat} (hb : b < 8) :
    (c.bandCheck b).1 = false := by
  refine rangeCheck_passes_iff.mpr ⟨?_, h.bound b hb⟩
  cases b with
  | zero => simp
  | succ b =>
    have hrising := h.rising b (by omega)
    have hprevious : 28 + 4 * (b + 1) = 32 + 4 * b := by omega
    have hthis : 32 + 4 * (b + 1) = 36 + 4 * b := by omega
    simpa [hprevious, hthis] using hrising

/-- The range checks of a COATING_LOAD let a coating in range through. -/
theorem TakenCard.coatingChecks_pass {c : TakenCard} (h : c.coatingFits) : allPass c.coatingChecks := by
  refine allPass_append.mpr ⟨?fields, ?bands⟩
  case fields =>
    have hdoseMax := c.u16_lt 26
    obtain ⟨⟨hopenLow, hopenHigh⟩, hopenFlash⟩ := h.openMax
    simp only [allPass_cons, rangeCheck_passes_iff, TakenCard.badLength_eq_false_iff]
    exact ⟨h.length, ⟨Nat.zero_le _, h.index⟩, h.solids, ⟨Nat.zero_le _, h.flashMin⟩,
      ⟨max_le hopenLow hopenFlash, hopenHigh⟩, ⟨Nat.zero_le _, h.scorch⟩, ⟨h.dose, by omega⟩, h.window,
      allPass_nil⟩
  case bands =>
    intro k hk
    obtain ⟨b, hb, rfl⟩ := List.mem_map.mp hk
    exact TakenCard.bandCheck_passes h (List.mem_range.mp hb)

/-- The record of a COATING_LOAD, its bands at their card offsets. -/
theorem TakenCard.coating_eq (c : TakenCard) :
    c.coating = ⟨c.u8 17, c.u16 18, c.u16 20, c.u16 22, c.u16 24, c.u16 26, c.u16 28,
      Vector.ofFn fun b => ⟨c.u16 (32 + 4 * b.val), c.u8 (34 + 4 * b.val)⟩⟩ := rfl

/-- A COATING_LOAD is judged and completed. -/
theorem exec_coatingLoad {s : State} {c : TakenCard} {rest : List TakenCard} (h : s.nextCard c rest)
    (hkind : c.kind = 2) :
    exec .coatingLoad s = .next ((applyCoating c s).1.completeCard c rest (applyCoating c s).2) :=
  congrArg Host.Outcome.next (State.processCard_next h (by simp [TakenCard.isKind, hkind]) applyCoating)

/-- A loaded coating with a user is refused, with no effect. -/
theorem applyCoating_inUse {s : State} {c : TakenCard} (hfits : c.coatingFits)
    (hloaded : s.tables.coatings[c.coatingId].isSome = true) {id : RecipeId}
    (huser : s.lowestUser (fun r => r.coating = c.coatingId) id) :
    applyCoating c s = (s, result .refusedInUse [id.val]) := by
  have hcheck := State.inUseCheck_refuses (p := fun r => r.coating == c.coatingId) (by simpa using huser)
  unfold applyCoating State.coatingLoadChecks
  rw [hloaded, hcheck]
  exact judge_refused (TakenCard.coatingChecks_pass hfits) _ [] _ s

/-- A coating that is empty or without a user is loaded. -/
theorem applyCoating_loads {s : State} {c : TakenCard} (hfits : c.coatingFits)
    (hfree : s.tables.coatings[c.coatingId] = none ∨ s.noUser fun r => r.coating = c.coatingId) :
    applyCoating c s =
      ({ s with tables := { s.tables with coatings := s.tables.coatings.set c.coatingId (some c.coating) } },
        ⟨.ok, [word c.coatingId.val, if s.tables.coatings[c.coatingId].isSome then 1 else 0]⟩) := by
  rw [← word_ite]
  have hcheck := State.inUseCheck_passes (s := s) (loaded := s.tables.coatings[c.coatingId].isSome)
    (p := fun r => r.coating == c.coatingId) (by simpa using hfree)
  exact judge_passed (allPass_append.mpr
    ⟨TakenCard.coatingChecks_pass hfits, allPass_cons.mpr ⟨hcheck, allPass_nil⟩⟩) _ s

/-- Settles O11: the range checks pass, and the check that is left is decided by the lowest user. -/
theorem coatingLoadOutcomes : Obligations.CoatingLoadOutcomes := by
  refine fun s c rest hnext hkind hfits => ⟨fun hloaded id huser => ?refused, fun hfree => ?loaded⟩
  case refused =>
    rw [exec_coatingLoad hnext hkind, applyCoating_inUse hfits hloaded huser]
    rfl
  case loaded =>
    rw [exec_coatingLoad hnext hkind, applyCoating_loads hfits hfree, TakenCard.coating_eq]
    rfl

end Sys2Proof.Machine
end

section
/-! PROOFS. RESUME_CELL (R103): its checks in order, and the path that an accepted card ends. -/

namespace Sys2Proof.Machine

theorem allPass_concat {l : List Check} {k : Check} (hl : allPass l) (hk : k.1 = false) : allPass (l ++ [k]) :=
  allPass_append.mpr ⟨hl, allPass_cons.mpr ⟨hk, allPass_nil⟩⟩

theorem outside_eq_true_iff {n lo hi : Nat} : outside n lo hi = true ↔ ¬within n lo hi := by
  rw [← outside_eq_false_iff, Bool.not_eq_false]

theorem TakenCard.badLength_eq_true_iff {c : TakenCard} {least : Nat} :
    c.badLength least = true ↔ ¬c.longEnough least := by
  rw [← TakenCard.badLength_eq_false_iff, Bool.not_eq_false]

/-- A one-byte field that holds a tag names that tag. -/
theorem TakenCard.ofNat_u8_eq {c : TakenCard} {offset : Nat} {n : Tag} (h : c.u8 offset = n.val) :
    (Fin.ofNat 32 (c.u8 offset) : Tag) = n := by
  rw [h, Fin.ofNat_val_eq_self]

/-- The cell stopped by the pressure of an applicator that is still out of band (R103). -/
def State.stoppedOutOfBand (s : State) (a : ApplicatorId) : Prop :=
  s.sequencer.stopCause = some .pressure ∧ s.sequencer.stopApplicator = some a ∧
    s.sequencer.monitors[a].state ≠ .inBand

/-- The segments fetched for a board (R104). -/
def BoardRecord.fetchedCount (b : BoardRecord) : Nat := b.lastSegment.elim 0 (· + 1)

/-- A RESUME_CELL is judged and completed. -/
theorem exec_resumeCell {s : State} {c : TakenCard} {rest : List TakenCard} (h : s.nextCard c rest)
    (hkind : c.kind = 13) :
    exec .resumeCell s = .next ((applyResume c s).1.completeCard c rest (applyResume c s).2) :=
  congrArg Host.Outcome.next (State.processCard_next h (by simp [TakenCard.isKind, hkind]) applyResume)

/-- The first check that refuses gives the card's result, and the card has no effect. -/
theorem exec_resumeCell_refused {s : State} {c : TakenCard} {rest : List TakenCard} (h : s.nextCard c rest)
    (hkind : c.kind = 13) {before after : List Check} {refuses : Bool} {r : CardResult}
    (hchecks : s.resumeChecks c = before ++ (refuses, r) :: after) (hpass : allPass before)
    (hrefuses : refuses = true) : exec .resumeCell s = .next (s.completeCard c rest r) := by
  obtain rfl := hrefuses
  rw [exec_resumeCell h hkind, applyResume, hchecks, judge_refused hpass]

/-- The last check refuses while the applicator that stopped the cell is out of band. -/
theorem State.resumeChecks_outOfBand {s : State} {a : ApplicatorId} (c : TakenCard) (h : s.stoppedOutOfBand a) :
    s.resumeChecks c = (s.resumeChecks c).take 5 ++ [(true, result .refusedState [4, a.val])] := by
  obtain ⟨hcause, happlicator, hstate⟩ := h
  have hrefuses : ((s.monitor a).state != .inBand) = true := bne_iff_ne.mpr hstate
  simp only [State.resumeChecks, hcause, happlicator, hrefuses]
  rfl

/-- The last check passes where no applicator both stopped the cell and is out of band. -/
theorem State.resumeChecks_inBand {s : State} (c : TakenCard) (h : ∀ a, ¬s.stoppedOutOfBand a) :
    ∃ r, s.resumeChecks c = (s.resumeChecks c).take 5 ++ [(false, r)] := by
  unfold State.resumeChecks
  split
  next a hcause happlicator =>
    have hstate : (s.monitor a).state = .inBand := by
      by_contra hout
      exact h a ⟨hcause, happlicator, hout⟩
    exact ⟨result .refusedState [4, a.val], by simp [hstate]⟩
  next => exact ⟨_, rfl⟩

/-- The checks of the card's form pass for a card whose tag is the number of a board record. -/
theorem State.resumeChecks_form_pass {s : State} {c : TakenCard} {n : Tag} (hlong : c.longEnough 1)
    (htag : c.u8 16 = n.val) : allPass ((s.resumeChecks c).take 2) := by
  have hrange : within (c.u8 16) 0 31 := ⟨Nat.zero_le _, by omega⟩
  exact allPass_cons.mpr ⟨TakenCard.badLength_eq_false_iff.mpr hlong,
    allPass_cons.mpr ⟨rangeCheck_passes_iff.mpr hrange, allPass_nil⟩⟩

/-- An accepted RESUME_CELL ends the path of the board it names. -/
theorem applyResume_accepted {s : State} {c : TakenCard} {n : Tag} (htag : c.u8 16 = n.val)
    (hpass : allPass (s.resumeChecks c)) :
    applyResume c s = (s.pathEnd n .resumeCell,
      result .ok [(s.record n).fetchedCount, (s.evaluation n).thin, (s.evaluation n).thick]) := by
  rw [applyResume, judge_passed hpass]
  simp only [TakenCard.ofNat_u8_eq htag, BoardRecord.fetchedCount]
  cases (s.record n).lastSegment <;> rfl

/-- Settles O35: each check refuses behind those that pass before it, and where all pass the card ends the path. -/
theorem resumeCellEndsThePath : Obligations.ResumeCellEndsThePath := by
  refine fun s c rest hnext hkind => ⟨fun hshort => ?length, fun hlong hhigh => ?range, fun n hlong htag => ?state⟩
  case length =>
    exact exec_resumeCell_refused hnext hkind (before := []) rfl allPass_nil
      (TakenCard.badLength_eq_true_iff.mpr hshort)
  case range =>
    have hfield : ¬within (c.u8 16) 0 31 := fun hin => Nat.not_lt.mpr hin.2 hhigh
    exact exec_resumeCell_refused hnext hkind (before := [_]) rfl
      (allPass_cons.mpr ⟨TakenCard.badLength_eq_false_iff.mpr hlong, allPass_nil⟩)
      (outside_eq_true_iff.mpr hfield)
  case state =>
    have hform : allPass ((s.resumeChecks c).take 2) := State.resumeChecks_form_pass hlong htag
    refine ⟨fun hcell => ?cell, fun hcell => ?stopped⟩
    case cell => exact exec_resumeCell_refused hnext hkind rfl hform (bne_iff_ne.mpr hcell)
    have hstopped : allPass ((s.resumeChecks c).take 3) := allPass_concat hform (by simp [hcell])
    refine ⟨fun hboard => ?board, fun hboard => ?named⟩
    case board =>
      refine exec_resumeCell_refused hnext hkind rfl hstopped (bne_iff_ne.mpr ?_)
      rwa [TakenCard.ofNat_u8_eq htag]
    have hnamed : allPass ((s.resumeChecks c).take 4) := by
      refine allPass_concat hstopped (bne_eq_false_iff_eq.mpr ?_)
      rw [TakenCard.ofNat_u8_eq htag, hboard]
    refine ⟨fun hopened => ?guard, fun hclosed => ?closed⟩
    case guard => exact exec_resumeCell_refused hnext hkind rfl hnamed (beq_iff_eq.mpr hopened)
    have hguarded : allPass ((s.resumeChecks c).take 5) := allPass_concat hnamed (by simp [hclosed])
    refine ⟨fun a hout => ?band, fun hin => ?accepted⟩
    case band =>
      exact exec_resumeCell_refused hnext hkind (State.resumeChecks_outOfBand c hout) hguarded rfl
    case accepted =>
      obtain ⟨r, hchecks⟩ := State.resumeChecks_inBand c hin
      have hpass : allPass (s.resumeChecks c) := hchecks ▸ allPass_concat hguarded rfl
      rw [exec_resumeCell hnext hkind, applyResume_accepted htag hpass, BoardRecord.fetchedCount]
      cases (s.record n).lastSegment <;> rfl

end Sys2Proof.Machine
end

section
/-! PROOFS. The thickness increment (R119): its division rounds half up once, and its operands bound num and den. -/

namespace Sys2Proof.Machine

/-! ### The rounded quotient -/

/-- The quotient of R119 before its clamp. -/
def halfUp (num den : Nat) : Nat := (num + den / 2) / den

theorem increment_eq_min_halfUp (F t k p TE T Pn N : Nat) :
    increment F t k p TE T Pn N = min 4095 (halfUp (F * t * k * p * TE * T) (32000 * Pn * N)) := rfl

section
variable {num den : Nat}

/-- The remainder decides the rounding: half of an even divisor or more rounds up, less rounds down. -/
theorem halfUp_eq_div_add (hpos : 0 < den) (heven : den % 2 = 0) :
    halfUp num den = num / den + if den / 2 ≤ num % den then 1 else 0 := by
  have hhalf : den / 2 < den := Nat.div_lt_self hpos Nat.one_lt_two
  have hcarry : den ≤ num % den + den / 2 ↔ den / 2 ≤ num % den := by omega
  rw [halfUp, Nat.add_div hpos, Nat.div_eq_of_lt hhalf, Nat.mod_eq_of_lt hhalf, Nat.add_zero]
  simp only [hcarry]

theorem halfUp_eq_zero_iff (hpos : 0 < den) (heven : den % 2 = 0) : halfUp num den = 0 ↔ num < den / 2 := by
  rw [halfUp, Nat.div_eq_zero_iff_lt hpos]
  omega

theorem halfUp_half (hpos : 0 < den) (heven : den % 2 = 0) : halfUp (den / 2) den = 1 := by
  have hdouble : den / 2 + den / 2 = den := by omega
  rw [halfUp, hdouble, Nat.div_self hpos]

/-- A quotient of 4094.5 or more rounds to the clamp or above it. -/
theorem clamp_le_halfUp (hpos : 0 < den) (h : 8189 * den ≤ 2 * num) : 4095 ≤ halfUp num den := by
  rw [halfUp, Nat.le_div_iff_mul_le hpos]
  omega

end

/-! ### The ranges of num and den (R117) -/

theorem increment_num_lt {F t k p TE T : Nat} (hF : F ≤ 4095) (ht : t ≤ 65535) (hk : k ≤ 8) (hp : p ≤ 1023)
    (hTE : TE ≤ 100) (hT : T ≤ 150) : F * t * k * p * TE * T < 5 * 10 ^ 16 :=
  calc F * t * k * p * TE * T
    _ ≤ 4095 * 65535 * 8 * 1023 * 100 * 150 := by gcongr
    _ < 5 * 10 ^ 16 := by norm_num

theorem increment_den_le {Pn N : Nat} (hPn : Pn ≤ 1023) (hN : N ≤ 512) : 32000 * Pn * N ≤ 32000 * 1023 * 512 := by
  gcongr

theorem increment_den_even (Pn N : Nat) : 32000 * Pn * N % 2 = 0 := by
  rw [Nat.mul_assoc]
  omega

/-! ### The increment (R119) -/

/-- Settles O38: each consequence is one of the rounded quotient's, read through the clamp. -/
theorem incrementRoundsHalfUpOnce : Obligations.IncrementRoundsHalfUpOnce := by
  intro F t k p TE T Pn N ⟨_, hF⟩ ⟨_, ht⟩ ⟨_, hk⟩ hp ⟨_, hTE⟩ ⟨_, hT⟩ ⟨hPnPos, hPn⟩ ⟨hNPos, hN⟩ num den d
  have hpos : 0 < den := Nat.mul_pos (by omega) hNPos
  have heven : den % 2 = 0 := increment_den_even Pn N
  have hden : den ≤ 32000 * 1023 * 512 := increment_den_le hPn hN
  have hd : d = min 4095 (halfUp num den) := increment_eq_min_halfUp F t k p TE T Pn N
  have hround : halfUp num den = num / den + if den / 2 ≤ num % den then 1 else 0 := halfUp_eq_div_add hpos heven
  have hzero : d = 0 ↔ num < den / 2 := by
    rw [← halfUp_eq_zero_iff hpos heven]
    omega
  refine ⟨hd, increment_num_lt hF ht hk hp hTE hT, hden, by omega, heven, fun hlow hquotient => ?down,
    fun hhigh hquotient => ?up, hzero, fun hdry => ?dry, fun hhalf => ?half, fun hfull => ?full⟩
  case down =>
    rw [if_neg (Nat.not_le.mpr hlow)] at hround
    omega
  case up =>
    rw [if_pos hhigh] at hround
    omega
  case dry =>
    have hnum : num = 0 := by simp [num, hdry]
    exact hzero.mpr (by omega)
  case half => rw [hd, hhalf, halfUp_half hpos heven]; rfl
  case full => rw [hd, Nat.min_eq_left (clamp_le_halfUp hpos hfull)]

end Sys2Proof.Machine
end

section
/-! PROOFS. The induction over a command: what every part of every event keeps, every step keeps. -/

namespace Sys2Proof.Machine

/-! ### The parts of an event -/

/-- What a card command does to the part, beside the completion of its card; no other command is one. -/
def Instr.cardEffect : Instr → Option (TakenCard → State → State × CardResult)
  | .refusedKind => some fun c s => (s, result .refusedKind [c.kind.toNat])
  | .applicatorLoad => some applyApplicator
  | .coatingLoad => some applyCoating
  | .recipeLoad => some applyRecipe
  | .pathLoad => some applyPath
  | .patchSet => some applyPatchSet
  | .patchClear => some applyPatchClear
  | .ovenLoad => some applyOven
  | .admitCard => some applyAdmit
  | .withdrawCard => some applyWithdraw
  | .disposeRelease => some (applyDispose .release)
  | .disposeScrap => some (applyDispose .scrap)
  | .disposeRecoat => some applyRecoat
  | .reclaimMap => some applyReclaim
  | .declareClear => some applyClear
  | .resumeCell => some applyResume
  | _ => none

/-- A card command is the processing of the next card it fits, with its effect. -/
theorem exec_card {i : Instr} {apply : TakenCard → State → State × CardResult} (h : Instr.cardEffect i = some apply)
    (s : State) : ∃ fits, exec i s = .next (s.processCard fits apply) := by
  cases i <;> cases h <;> exact ⟨_, rfl⟩

/-- A card is refused with no effect, or all its checks pass and it is applied. -/
theorem judge_cases (checks : List Check) (apply : State → State × CardResult) (s : State) :
    (∃ r, judge checks apply s = (s, r)) ∨ (allPass checks ∧ judge checks apply s = apply s) := by
  unfold judge
  split
  next r _ => exact .inl ⟨r, rfl⟩
  next hnone =>
    refine .inr ⟨?_, rfl⟩
    induction checks with
    | nil => exact allPass_nil
    | cons k l ih =>
      by_cases hk : k.1 = true
      · simp [firstRefusal, hk] at hnone
      · rw [Bool.not_eq_true] at hk
        exact allPass_cons.mpr ⟨hk, ih (by simpa [firstRefusal, hk] using hnone)⟩

/-- What the untouched part keeps, and an accepted card's effect keeps, a judged card keeps. -/
theorem judge_induct {P : State → Prop} {checks : List Check} {apply : State → State × CardResult} {s : State}
    (hs : P s) (happly : allPass checks → P (apply s).1) : P (judge checks apply s).1 := by
  obtain ⟨r, hrefused⟩ | ⟨hpass, hpassed⟩ := judge_cases checks apply s
  · rwa [hrefused]
  · rw [hpassed]
    exact happly hpass

/-- The walk leaves all but the directory and the Card Processor. -/
@[simp] theorem State.walk_leaves (s : State) (first visits : Nat) :
    (s.walk first visits).pending = s.pending ∧
      (s.walk first visits).lineTime = s.lineTime ∧
      (s.walk first visits).tables = s.tables ∧
      (s.walk first visits).tracker = s.tracker ∧
      (s.walk first visits).verifier = s.verifier ∧
      (s.walk first visits).sequencer = s.sequencer ∧
      (s.walk first visits).coverage = s.coverage ∧
      (s.walk first visits).cure = s.cure ∧
      (s.walk first visits).holds = s.holds ∧
      (s.walk first visits).line = s.line ∧
      (s.walk first visits).ports = s.ports ∧
      (s.walk first visits).start = s.start ∧
      (s.walk first visits).freeCount = s.freeCount ∧
      (s.walk first visits).exchange.mem = s.exchange.mem := by
  simp only [State.walk, and_self]

/-- What the delivery of a message can do: nothing, or what the block that owns the message does with it. -/
inductive State.Delivers (s : State) : State → Prop
  | ignored : Delivers s s
  | segStarted (tag : Byte) (index : Half) : Delivers s (s.takeSegStarted tag index)
  | segDone (tag : Byte) (index : Half) : Delivers s (s.takeSegDone tag index)
  | motionFault : Delivers s s.takeMotionFault
  | pressure (applicator : Byte) (kPa : Half) : Delivers s (s.takePressure applicator kPa)
  | arrival (serial : Option Serial) : Delivers s (s.takeArrival serial)
  | maskResult (index : Byte) (value : MaskResult) : Delivers s (s.takeMaskResult index value)
  | transferDone (r : Route) : Delivers s (s.takeTransferDone r)
  | transferFault (r : Route) : Delivers s (s.takeTransferFault r)
  | slotState (slot : Byte) (report : SlotReport) : Delivers s (s.takeSlotState slot report)
  | guard (g : GuardState) : Delivers s (s.takeGuard g)
  | ovenSample (readings : Vector Half 6) (delta : Half) : Delivers s (s.takeOvenSample readings delta)
  | entrySeen : Delivers s s.takeEntrySeen
  | exitSeen : Delivers s s.takeExitSeen

theorem State.delivers_judgeArrival (s : State) (status : Byte) (serial : Serial) :
    s.Delivers (s.judgeArrival status serial) := by
  unfold State.judgeArrival
  split <;> constructor

theorem State.delivers_judgeMaskResult (s : State) (index value : Byte) :
    s.Delivers (s.judgeMaskResult index value) := by
  unfold State.judgeMaskResult
  split <;> constructor

theorem State.delivers_judgeTransferDone (s : State) (code : Byte) : s.Delivers (s.judgeTransferDone code) := by
  unfold State.judgeTransferDone
  split <;> constructor

theorem State.delivers_judgeTransferFault (s : State) (code : Byte) : s.Delivers (s.judgeTransferFault code) := by
  unfold State.judgeTransferFault
  split <;> constructor

theorem State.delivers_judgeSlotState (s : State) (slot report : Byte) :
    s.Delivers (s.judgeSlotState slot report) := by
  unfold State.judgeSlotState
  split <;> constructor

theorem State.delivers_judgeGuard (s : State) (state : Byte) : s.Delivers (s.judgeGuard state) := by
  unfold State.judgeGuard
  split <;> constructor

/-- Every message is delivered in one of these ways. -/
theorem State.delivers_takeMessage (s : State) (m : Instr) : s.Delivers (s.takeMessage m) := by
  cases m with
  | segStarted tag index => exact .segStarted tag index
  | segDone tag index => exact .segDone tag index
  | motionFault => exact .motionFault
  | pressure applicator kPa => exact .pressure applicator kPa
  | arrival status serial => exact s.delivers_judgeArrival status serial
  | maskResult index value => exact s.delivers_judgeMaskResult index value
  | transferDone code => exact s.delivers_judgeTransferDone code
  | transferFault code => exact s.delivers_judgeTransferFault code
  | slotState slot report => exact s.delivers_judgeSlotState slot report
  | guard state => exact s.delivers_judgeGuard state
  | ovenSample readings delta => exact .ovenSample readings delta
  | entrySeen => exact .entrySeen
  | exitSeen => exact .exitSeen
  | _ => exact .ignored

/-- What the part does of itself at a deadline, at a transfer that starts, at a tick of line time and at a frame sent;
nothing where it is not due. -/
inductive State.Acts (s : State) : State → Prop
  | nothing : Acts s s
  | verification {t : Tag} {n : Nat} {d : Time} (h : s.verifier.verification = .verifying t n d) :
      Acts s (s.completeVerification t n)
  | transferStart {r : Route} {t : Tag} (h : s.startable r = some t) : Acts s (s.startRoute r t)
  | transferDeadline {r : Route} {d : Time} {slot : Nat} (h : s.tracker.route r = .inFlight d slot) :
      Acts s (s.failTransfer r 2)
  | segmentDeadline (h : s.sequencer.inFlight = true) : Acts s (s.abort .motion none)
  | pressureSilence (a : ApplicatorId) (sample : Nat) :
      Acts s ((s.mapMonitor a fun m => { m with silence := none }).changeMonitor a .unknown sample)
  | flashOff (t : Tag) (i : FlashItems) : Acts s (s.setFlash t (some { i with flashDeadline := none, done := true }))
  | flashOffHead (t : Tag) (i : FlashItems) :
      Acts s (s.setFlash t (some { i with flashDeadline := none, done := true })).driveGate
  | openTime (t : Tag) (i : FlashItems) :
      Acts s ((s.setFlash t (some { i with openDeadline := none })).modifyRecord t (BoardRecord.addReason .openTime))
  | ovenSilent :
      Acts s ((s.cure.oven.foldl (fun s t => s.modifyRecord t (BoardRecord.addReason .cureUnverified))
        (s.mapCure fun c => { c with sampling := .silent, silence := none })).append
          (.ovenSilent s.cure.oven.length))
  | recoatExpired (t : Tag) :
      Acts s ((s.modifyRecord t fun b => { b with recoatOpen := false }).append
        (.recoatExpired t (s.record t).serial))
  | tick : Acts s { s with lineTime := s.lineTime + 1 }
  | transmit (p : Port) : Acts s { s with ports := s.ports.set p (s.ports.get p).transmit }

/-- The commands that the part itself brings about, beside scans and cards. -/
inductive Instr.Internal : Instr → Prop
  | maskVerifyDeadlineExpiry : Internal .maskVerifyDeadlineExpiry
  | transferStart (r : Route) : Internal (.transferStart r)
  | transferDeadlineExpiry (r : Route) : Internal (.transferDeadlineExpiry r)
  | segmentDeadlineExpiry : Internal .segmentDeadlineExpiry
  | pressureSilenceDeadlineExpiry (a : ApplicatorId) : Internal (.pressureSilenceDeadlineExpiry a)
  | flashOffDeadlineExpiry (t : Tag) : Internal (.flashOffDeadlineExpiry t)
  | openTimeDeadlineExpiry (t : Tag) : Internal (.openTimeDeadlineExpiry t)
  | ovenSilent : Internal .ovenSilent
  | recoatExpired (t : Tag) : Internal (.recoatExpired t)
  | lineTimeTick : Internal .lineTimeTick
  | frameTransmit (p : Port) : Internal (.frameTransmit p)

/-- An internal command acts on a running part; on one that restarts it acts at the restart's end. -/
theorem exec_internal {i : Instr} (h : Instr.Internal i) :
    ∃ f : State → State, ∀ s, exec i s = .next (s.live f) ∧ s.Acts (f s) := by
  cases h with
  | maskVerifyDeadlineExpiry =>
    refine ⟨_, fun s => ⟨rfl, ?_⟩⟩
    unfold State.expireVerification
    split
    · exact .nothing
    next hverifying => split <;> [exact .verification hverifying; exact .nothing]
  | transferStart r =>
    refine ⟨_, fun s => ⟨rfl, ?_⟩⟩
    split
    · exact .nothing
    next hstart => exact .transferStart hstart
  | transferDeadlineExpiry r =>
    refine ⟨_, fun s => ⟨rfl, ?_⟩⟩
    split
    next hflight => split <;> [exact .transferDeadline hflight; exact .nothing]
    · exact .nothing
  | segmentDeadlineExpiry =>
    refine ⟨_, fun s => ⟨rfl, ?_⟩⟩
    split
    next hdue => exact .segmentDeadline (Bool.and_eq_true_iff.mp hdue).1
    · exact .nothing
  | pressureSilenceDeadlineExpiry a =>
    refine ⟨_, fun s => ⟨rfl, ?_⟩⟩
    split
    · exact .pressureSilence a _
    · exact .nothing
  | flashOffDeadlineExpiry t =>
    refine ⟨_, fun s => ⟨rfl, ?_⟩⟩
    split
    · exact .nothing
    · split
      · split <;> [exact .flashOffHead t _; exact .flashOff t _]
      · exact .nothing
  | openTimeDeadlineExpiry t =>
    refine ⟨_, fun s => ⟨rfl, ?_⟩⟩
    split
    · exact .nothing
    · split <;> [exact .openTime t _; exact .nothing]
  | ovenSilent =>
    refine ⟨_, fun s => ⟨rfl, ?_⟩⟩
    split
    · exact .ovenSilent
    · exact .nothing
  | recoatExpired t =>
    refine ⟨_, fun s => ⟨rfl, ?_⟩⟩
    dsimp only
    split
    · exact .recoatExpired t
    · exact .nothing
  | lineTimeTick => exact ⟨_, fun s => ⟨rfl, .tick⟩⟩
  | frameTransmit p => exact ⟨_, fun s => ⟨rfl, .transmit p⟩⟩

/-! ### Commands -/

/-- What a command does to a part that runs, whichever way it came to run. -/
inductive State.Takes (u : State) : Instr → State → Prop
  | nothing (i : Instr) : Takes u i u
  | walk (i : Instr) (first visits : Nat) : Takes u i (u.walk first visits)
  | scan (i : Instr) (visits : Nat) : Takes u i (u.clearScan.walk 0 visits)
  | card {i : Instr} {apply : TakenCard → State → State × CardResult} (h : Instr.cardEffect i = some apply)
      (c : TakenCard) (rest : List TakenCard) : Takes u i ((apply c u).1.completeCard c rest (apply c u).2)
  | internal (i : Instr) {t : State} (h : u.Acts t) : Takes u i t
  | message (i : Instr) (p : Port) (h : u.receiver p = .awaitKind) : Takes u i (u.takeMessage i)
  | frame (i : Instr) (p : Port) (bytes : List Byte) (h : u.receiver p ≠ .awaitKind) :
      Takes u i (u.receiveBytes p bytes)
  | frameDiscarded (p : Port) (bytes : List Byte) : Takes u (.frameDiscarded p bytes) (u.receiveBytes p bytes)
  | frameAbandoned (p : Port) (bytes : List Byte) :
      Takes u (.frameAbandoned p bytes) ((u.receiveBytes p bytes).receivePause p)
  | missingStopBit (p : Port) (bytes : List Byte) :
      Takes u (.missingStopBit p bytes) ((u.receiveBytes p bytes).receiveLevels p Machine.unstopped)

/-- The running part that an event meets: the part itself, or one that has ended its restart for it. -/
inductive State.Meets (s : State) : State → Prop
  | running (h : s.running) : Meets s s
  | restarted {n : Nat} (h : s.start = .restarting n) : Meets s (s.finishRestart n)

/-- What a command does: a host access is served or ignored, an event is taken by a part that runs or passes a held one
by, and a reset restarts the part. -/
inductive State.Executes (s : State) : Instr → State → Prop
  | ignored (i : Instr) : Executes s i s
  | hostWrite (i : Instr) (address : BitVec 15) (data : Word) :
      Executes s i (s.hostWrite (byteOffset address) data)
  | writeRegister (i : Instr) (position : BitVec 3) (data : Word) : Executes s i (s.writeRegister position data)
  | event {i : Instr} {u t : State} (hmeets : s.Meets u) (htakes : u.Takes i t) : Executes s i t
  | reset {i : Instr} (hreset : ¬ordinary i) (cause : ResetKind) (extent : ResetExtent) :
      Executes s i (s.resetBy cause extent)

theorem State.executes_served {i : Instr} {s : State} {f : State → State} (h : s.Executes i (f s)) :
    s.Executes i (s.served f) := by
  unfold State.served
  split
  · exact h
  · exact .ignored i
  · exact .ignored i

theorem State.executes_live {i : Instr} (s : State) {f : State → State} (h : ∀ u : State, u.running → u.Takes i (f u)) :
    s.Executes i (s.live f) := by
  unfold State.live
  split
  next hrun => exact .event (.running hrun) (h s hrun)
  next => exact .ignored i
  next hrestarting => exact .event (.restarted hrestarting) (h _ rfl)

theorem State.executes_card {i : Instr} {apply : TakenCard → State → State × CardResult}
    (hi : Instr.cardEffect i = some apply) (s : State) (fits : TakenCard → Bool) :
    s.Executes i (s.processCard fits apply) := by
  refine State.executes_live s fun u _ => ?_
  split
  · split
    · exact .card hi _ _
    · exact .nothing i
  · exact .nothing i

theorem State.executes_message (m : Instr) (s : State) (p : Port) (f : Frame) :
    s.Executes m (s.receiveFrame p f fun u => u.takeMessage m) := by
  refine State.executes_live s fun u _ => ?_
  split
  next h => exact .message m p h
  next h => exact .frame m p _ h

theorem State.executes_entry (i : Instr) (s : State) (n : CardId) (data : Word) :
    s.Executes i (s.served (State.hostWrite (entryOffset n) data)) := by
  have hoffset : entryOffset n = byteOffset (BitVec.ofNat 15 (0x80 + n.val)) := by
    simp only [entryOffset, byteOffset, BitVec.toNat_ofNat]
    omega
  rw [hoffset]
  exact State.executes_served (.hostWrite i _ data)

theorem State.executes_internal {i : Instr} (hi : Instr.Internal i) {s t : State} (he : exec i s = .next t) :
    s.Executes i t := by
  obtain ⟨f, hf⟩ := exec_internal hi
  obtain rfl := Host.Outcome.next.inj ((hf s).1.symm.trans he)
  exact State.executes_live s fun u _ => .internal _ (hf u).2

/-- Every command does one of these things. -/
theorem exec_executes {i : Instr} {s t : State} (he : exec i s = .next t) : s.Executes i t := by
  cases i with
  | hostMemoryWrite address data => cases he; exact State.executes_served (.hostWrite _ address data)
  | posting n upper => cases he; exact State.executes_entry _ s n _
  | withdrawal n upper => cases he; exact State.executes_entry _ s n _
  | cardReturn n upper => cases he; exact State.executes_entry _ s n _
  | lineCtlRun | lineCtlFreeze | lineCtlDrain | lineCtlOtherCode | attnWrite | attnEnWrite | startStatusWrite
  | registerWriteDropped => cases he; exact State.executes_served (.writeRegister _ _ _)
  | scan visits =>
    cases he
    refine State.executes_live s fun u _ => ?_
    split
    · exact .walk _ _ _
    · split
      · exact .scan _ _
      · exact .nothing _
  | refusedKind | applicatorLoad | coatingLoad | recipeLoad | pathLoad | patchSet | patchClear | ovenLoad | admitCard
  | withdrawCard | disposeRelease | disposeScrap | disposeRecoat | reclaimMap | declareClear | resumeCell =>
    cases he
    exact State.executes_card rfl s _
  | arrival | maskResult | transferDone | transferFault | segStarted | segDone | pressure | guard | entrySeen
  | ovenSample | exitSeen | slotState =>
    cases he
    exact State.executes_message _ s _ _
  | motionFault diagnostic =>
    cases he
    split
    · exact State.executes_message (.motionFault diagnostic) s _ _
    · exact .ignored _
  | maskVerifyDeadlineExpiry | transferStart | transferDeadlineExpiry | segmentDeadlineExpiry
  | pressureSilenceDeadlineExpiry | flashOffDeadlineExpiry | openTimeDeadlineExpiry | ovenSilent | recoatExpired
  | lineTimeTick | frameTransmit =>
    exact State.executes_internal (by constructor) he
  | powerOnReset | supplyDipReset | pinReset => cases he; exact .reset (by simp [ordinary]) _ _
  | frameDiscarded p bytes => cases he; exact State.executes_live s fun u _ => .frameDiscarded p bytes
  | frameAbandoned p bytes => cases he; exact State.executes_live s fun u _ => .frameAbandoned p bytes
  | missingStopBit p bytes => cases he; exact State.executes_live s fun u _ => .missingStopBit p bytes

/-! ### What every part of an event keeps -/

/-- What the deliveries and the framing states keep, received levels keep. -/
theorem State.receiveLevels_induct {P : State → Prop} (hmessage : ∀ {s t : State}, s.Delivers t → P s → P t)
    (hreceiver : ∀ {s : State} (p : Port) (r : Receiver), P s → P (s.setReceiver p r)) {s : State} (hs : P s) (p : Port)
    (levels : List Bool) : P (s.receiveLevels p levels) := by
  unfold State.receiveLevels
  dsimp only
  have hset := hreceiver (s := s) p ((s.receiver p).takeLevels levels).1 hs
  split
  · exact hset
  · unfold State.deliver
    split
    · exact hset
    · exact hmessage (State.delivers_takeMessage _ _) hset

theorem State.receiveBytes_induct {P : State → Prop} (hmessage : ∀ {s t : State}, s.Delivers t → P s → P t)
    (hreceiver : ∀ {s : State} (p : Port) (r : Receiver), P s → P (s.setReceiver p r)) {s : State} (hs : P s) (p : Port)
    (bytes : List Byte) : P (s.receiveBytes p bytes) :=
  List.foldlRecOn bytes (State.receiveByte p) hs fun _ hu b _ =>
    State.receiveLevels_induct hmessage hreceiver hu p (byteLevels b)

/-- A property of the state that each part of an event keeps. -/
structure EventsKeep (P : State → Prop) : Prop where
  queue : ∀ {s : State} (rest : List Instr), P s → P { s with pending := rest }
  visit : ∀ {s : State} (v : Visit), P s → P (s.visit v)
  run : ∀ {s : State}, P s → P { s with start := .running }
  hostWrite : ∀ {s : State} (address : BitVec 15) (data : Word), P s → P (s.hostWrite (byteOffset address) data)
  writeRegister : ∀ {s : State} (position : BitVec 3) (data : Word), P s → P (s.writeRegister position data)
  clearScan : ∀ {s : State}, P s → P s.clearScan
  walk : ∀ {s : State} (first visits : Nat), P s → P (s.walk first visits)
  card : ∀ {i : Instr} {apply : TakenCard → State → State × CardResult}, Instr.cardEffect i = some apply →
    ∀ {s : State} (c : TakenCard), P s → P (apply c s).1
  completeCard : ∀ {s : State} (c : TakenCard) (rest : List TakenCard) (r : CardResult), P s →
    P (s.completeCard c rest r)
  message : ∀ {s t : State}, s.Delivers t → P s → P t
  receiver : ∀ {s : State} (p : Port) (r : Receiver), P s → P (s.setReceiver p r)
  internal : ∀ {s t : State}, s.Acts t → P s → P t
  reset : ∀ {s : State} (cause : ResetKind) (extent : ResetExtent), P s → P (s.resetBy cause extent)

namespace EventsKeep

variable {P : State → Prop} (h : EventsKeep P)
include h

theorem finishRestart {s : State} (hs : P s) (n : Nat) : P (s.finishRestart n) :=
  h.run (List.foldlRecOn (restartVisits.drop n) State.visit hs fun _ hu v _ => h.visit v hu)

theorem meets {s u : State} (hmeets : s.Meets u) (hs : P s) : P u := by
  cases hmeets with
  | running => exact hs
  | restarted => exact h.finishRestart hs _

theorem takes {i : Instr} {u t : State} (htakes : u.Takes i t) (hu : P u) : P t := by
  cases htakes with
  | nothing => exact hu
  | walk _ first visits => exact h.walk first visits hu
  | scan _ visits => exact h.walk 0 visits (h.clearScan hu)
  | card hi c rest => exact h.completeCard c rest _ (h.card hi c hu)
  | internal _ hacts => exact h.internal hacts hu
  | message => exact h.message (u.delivers_takeMessage i) hu
  | frame _ p bytes _ => exact State.receiveBytes_induct h.message h.receiver hu p bytes
  | frameDiscarded p bytes => exact State.receiveBytes_induct h.message h.receiver hu p bytes
  | frameAbandoned p bytes => exact h.receiver p _ (State.receiveBytes_induct h.message h.receiver hu p bytes)
  | missingStopBit p bytes =>
    exact State.receiveLevels_induct h.message h.receiver
      (State.receiveBytes_induct h.message h.receiver hu p bytes) p _

/-- What the parts of an event keep, a command keeps. -/
theorem exec {i : Instr} {s t : State} (hs : P s) (he : Machine.exec i s = .next t) : P t := by
  cases exec_executes he with
  | ignored => exact hs
  | hostWrite address data => exact h.hostWrite address data hs
  | writeRegister position data => exact h.writeRegister position data hs
  | event hmeets htakes => exact h.takes htakes (h.meets hmeets hs)
  | reset _ cause extent => exact h.reset cause extent hs

/-- What the parts of an event keep, every step keeps. -/
theorem step {s t : State} (hs : P s) (he : Machine.step s = .next t) : P t := by
  unfold Machine.step at he
  split at he
  · cases he; exact hs
  · exact h.exec (h.queue _ hs) he

end EventsKeep

end Sys2Proof.Machine
end

section
/-! PROOFS. The memory and the film (R24, R116): where each operation writes, and that no write leaves a map cell above
4095. -/

namespace Sys2Proof.Machine

/-! ### Memory with its map cells in bounds -/

/-- The memory is in its canonical form, and every map cell holds at most 4095. -/
structure Memory.filmed (m : Memory) : Prop where
  wf : m.wf
  cells : ∀ (f : FrameId) (column row : Nat), column < 64 → row < 48 → m.cell f (column, row) ≤ 4095

/-- Memory after each map cell reads 0 or as before is in bounds. -/
theorem Memory.filmed_clearWhere {m : Memory} (h : m.filmed) (p : Nat → Bool) : (m.clearWhere p).filmed := by
  refine ⟨Memory.wf_clearWhere h.wf p, fun f column row hcolumn hrow => ?_⟩
  have hold := h.cells f column row hcolumn hrow
  simp only [Memory.cell, Memory.read_clearWhere] at hold ⊢
  have hlow : (if p (cellAt f (column, row)) then 0 else m.read (cellAt f (column, row)) : Byte).toNat
      ≤ (m.read (cellAt f (column, row))).toNat := by split <;> simp
  have hhigh : (if p (cellAt f (column, row) + 1) then 0 else m.read (cellAt f (column, row) + 1) : Byte).toNat
      ≤ (m.read (cellAt f (column, row) + 1)).toNat := by split <;> simp
  omega

/-- A write outside the map frames leaves every map cell. -/
theorem Memory.filmed_writeBytes {m : Memory} (h : m.filmed) {base : Nat} {bs : List Byte}
    (hbelow : base + bs.length ≤ 0x14000) : (m.writeBytes base bs).filmed := by
  refine ⟨Memory.wf_writeBytes h.wf base bs, fun f column row hcolumn hrow => ?_⟩
  have hat : 0x14000 ≤ cellAt f (column, row) := by simp only [cellAt]; omega
  have hold := h.cells f column row hcolumn hrow
  simp only [Memory.cell] at hold ⊢
  rw [Memory.read_writeBytes_outside h.wf (by omega), Memory.read_writeBytes_outside h.wf (by omega)]
  exact hold

@[simp] theorem length_le16 (n : Nat) : (le16 n).length = 2 := rfl

@[simp] theorem length_le32 (w : Word) : (le32 w).length = 4 := rfl

/-- The bytes of a 16-bit field spell its number. -/
theorem le16_value {n : Nat} (h : n < 65536) : (byte n).toNat + 256 * (byte (n / 256)).toNat = n := by
  simp only [byte, BitVec.toNat_ofNat]
  omega

/-- Cells lie at even offsets, so that two of them are one or apart. -/
theorem Memory.cell_setCell {m : Memory} (h : m.wf) (f g : FrameId) (a b : Nat × Nat) {v : Nat} (hv : v < 65536) :
    (m.setCell f a v).cell g b = if cellAt g b = cellAt f a then v else m.cell g b := by
  have hread (y : Nat) : (m.setCell f a v).read y =
      if cellAt f a ≤ y ∧ y < cellAt f a + 2 then (le16 v).getD (y - cellAt f a) 0 else m.read y :=
    Memory.read_writeBytes h _ y _
  simp only [Memory.cell, hread]
  by_cases hsame : cellAt g b = cellAt f a
  · rw [hsame]
    simpa [le16] using le16_value hv
  · have hapart : cellAt g b + 2 ≤ cellAt f a ∨ cellAt f a + 2 ≤ cellAt g b := by
      simp only [cellAt] at hsame ⊢
      omega
    rw [if_neg (by omega), if_neg (by omega), if_neg hsame]

/-- A cell written at most 4095 leaves every map cell in bounds. -/
theorem Memory.filmed_setCell {m : Memory} (h : m.filmed) (f : FrameId) (a : Nat × Nat) {v : Nat} (hv : v ≤ 4095) :
    (m.setCell f a v).filmed := by
  refine ⟨Memory.wf_writeBytes h.wf _ _, fun g column row hcolumn hrow => ?_⟩
  rw [Memory.cell_setCell h.wf f g a (column, row) (by omega)]
  split
  · exact hv
  · exact h.cells g column row hcolumn hrow

theorem Memory.cell_lt (m : Memory) (f : FrameId) (a : Nat × Nat) : m.cell f a < 65536 := by
  have hlow := (m.read (cellAt f a)).isLt
  have hhigh := (m.read (cellAt f a + 1)).isLt
  simp only [Memory.cell]
  omega

/-- A cell written with what it holds leaves every map cell. -/
theorem Memory.filmed_setCell_same {m : Memory} (h : m.filmed) (f : FrameId) (a : Nat × Nat) :
    (m.setCell f a (m.cell f a)).filmed := by
  refine ⟨Memory.wf_writeBytes h.wf _ _, fun g column row hcolumn hrow => ?_⟩
  rw [Memory.cell_setCell h.wf f g a (column, row) (m.cell_lt f a)]
  split
  next hsame =>
    have hold := h.cells g column row hcolumn hrow
    simp only [Memory.cell] at hold ⊢
    rwa [← hsame]
  next => exact h.cells g column row hcolumn hrow

/-- A cell after a deposit holds what it held, or at most 4095. -/
theorem depositCell_cases (cls : CellClass) (old d : Nat) :
    depositCell cls old d = old ∨ depositCell cls old d ≤ 4095 := by
  cases cls <;> simp [depositCell, Config.maxFilm]

/-! ### The sizes of what is written -/

@[simp] theorem length_padTo (n : Nat) (bs : List Byte) : (padTo n bs).length = n := by
  induction n generalizing bs with
  | zero => rfl
  | succ n ih => cases bs <;> simp [padTo, ih]

@[simp] theorem Activity.length_bytes (e : Activity) (now : Time) : (e.bytes now).length = 16 := by
  simp [Activity.bytes]

@[simp] theorem CardResult.length_bytes (r : CardResult) (tag : Word) : (r.bytes tag).length = 32 := by
  simp [CardResult.bytes]

/-! ### What the operations write -/

variable {s : State}

@[simp] theorem State.append_filmed (e : Activity) (h : s.exchange.mem.filmed) :
    (s.append e).exchange.mem.filmed := by
  unfold State.append
  split
  · exact h
  · have hindex := s.exchange.writeIndex.isLt
    refine Memory.filmed_writeBytes h ?_
    simp only [entryAt, Activity.length_bytes]
    omega

@[simp] theorem State.setSlot_filmed (n : SlotId) (v : SlotState) (h : s.exchange.mem.filmed) :
    (s.setSlot n v).exchange.mem.filmed := by
  simp [State.setSlot, h]

@[simp] theorem State.setCell_filmed (v : CellState) (c : Option StopCause) (h : s.exchange.mem.filmed) :
    (s.setCell v c).exchange.mem.filmed := by
  simp [State.setCell, h]

@[simp] theorem State.takeFrame_filmed (f : FrameId) (t : Tag) (h : s.exchange.mem.filmed) :
    (s.takeFrame f t).exchange.mem.filmed := by
  simpa [State.takeFrame] using Memory.filmed_clearWhere h _

@[simp] theorem State.allocate_filmed (t : Tag) (h : s.exchange.mem.filmed) :
    (s.allocate t).exchange.mem.filmed := by
  unfold State.allocate
  (repeat' split) <;> simp [h]

@[simp] theorem State.deposit_filmed (t : Tag) (g : Segment) (a : ApplicatorId) (time sum count pre : Nat)
    (h : s.exchange.mem.filmed) : (s.deposit t g a time sum count pre).exchange.mem.filmed := by
  unfold State.deposit
  split
  · exact h
  · next f _ =>
    dsimp only
    refine List.foldlRecOn _ _ h fun m hm cell _ => ?_
    obtain hsame | hbound := depositCell_cases
      ((s.boardRecipe t).effectiveClass (s.record t).maskResults cell) (m.cell f cell)
      ((s.applicator a).increment g time sum count pre)
    · rw [hsame]
      exact Memory.filmed_setCell_same hm f cell
    · exact Memory.filmed_setCell hm f cell hbound

@[simp] theorem State.pathEnd_filmed (t : Tag) (e : PathEnd) (h : s.exchange.mem.filmed) :
    (s.pathEnd t e).exchange.mem.filmed := by
  simp [State.pathEnd, h]

@[simp] theorem State.pressureCheck_filmed (t : Tag) (a : ApplicatorId) (h : s.exchange.mem.filmed) :
    (s.pressureCheck t a).exchange.mem.filmed := by
  unfold State.pressureCheck
  split <;> simp [h]

@[simp] theorem State.fetch_filmed (t : Tag) (h : s.exchange.mem.filmed) : (s.fetch t).exchange.mem.filmed := by
  unfold State.fetch
  dsimp only
  (repeat' split) <;> simp [h]

@[simp] theorem State.abort_filmed (c : StopCause) (a : Option ApplicatorId) (h : s.exchange.mem.filmed) :
    (s.abort c a).exchange.mem.filmed := by
  unfold State.abort
  dsimp only
  split <;> simp [h]

@[simp] theorem State.abortActive_filmed (c : StopCause) (h : s.exchange.mem.filmed) :
    (s.abortActive c).exchange.mem.filmed := by
  unfold State.abortActive
  split <;> simp [h]

@[simp] theorem State.leavePaused_filmed (h : s.exchange.mem.filmed) : s.leavePaused.exchange.mem.filmed := by
  unfold State.leavePaused
  (repeat' split) <;> simp [h]

@[simp] theorem State.cellOnMode_filmed (h : s.exchange.mem.filmed) : s.cellOnMode.exchange.mem.filmed := by
  unfold State.cellOnMode
  (repeat' split) <;> simp [h]

@[simp] theorem State.handMode_filmed (h : s.exchange.mem.filmed) : s.handMode.exchange.mem.filmed := by
  simp [State.handMode, h]

@[simp] theorem State.changeMode_filmed (m : LineMode) (h : s.exchange.mem.filmed) :
    (s.changeMode m).exchange.mem.filmed := by
  simp [State.changeMode, h]

@[simp] theorem State.reportEmpty_filmed (h : s.exchange.mem.filmed) : s.reportEmpty.exchange.mem.filmed := by
  unfold State.reportEmpty
  split <;> simp [h]

@[simp] theorem State.raiseFault_filmed (c : FaultCode) (r : Option Route) (t : Option Tag) (n : Nat)
    (h : s.exchange.mem.filmed) : (s.raiseFault c r t n).exchange.mem.filmed := by
  unfold State.raiseFault
  dsimp only
  split
  · exact State.handMode_filmed (State.append_filmed _ (State.append_filmed _ (by simpa using h)))
  · exact State.append_filmed _ h

@[simp] theorem State.sprayStart_filmed (t : Tag) (h : s.exchange.mem.filmed) :
    (s.sprayStart t).exchange.mem.filmed := by
  unfold State.sprayStart
  dsimp only
  have hframe : (((s.mapSequencer fun q => { q with index := 0, segment := none, phase := .none }).modifyRecord t
      fun b => { b with sprayStart := some s.lineTime }).allocate t).exchange.mem.filmed :=
    State.allocate_filmed t (by simpa using h)
  (repeat' split) <;> simp [hframe]

@[simp] theorem State.completeVerification_filmed (t : Tag) (n : Nat) (h : s.exchange.mem.filmed) :
    (s.completeVerification t n).exchange.mem.filmed := by
  simp [State.completeVerification, h]

@[simp] theorem State.startVerification_filmed (t : Tag) (h : s.exchange.mem.filmed) :
    (s.startVerification t).exchange.mem.filmed := by
  unfold State.startVerification
  dsimp only
  split <;> simp [h]

@[simp] theorem State.matchArrival_filmed (t : Tag) (a : Admission) (h : s.exchange.mem.filmed) :
    (s.matchArrival t a).exchange.mem.filmed := by
  simp [State.matchArrival, h]

@[simp] theorem State.startRoute_filmed (r : Route) (t : Tag) (h : s.exchange.mem.filmed) :
    (s.startRoute r t).exchange.mem.filmed := by
  unfold State.startRoute
  dsimp only
  (repeat' split) <;> simp [h]

@[simp] theorem State.completeRoute_filmed (r : Route) (t : Tag) (n : Nat) (h : s.exchange.mem.filmed) :
    (s.completeRoute r t n).exchange.mem.filmed := by
  cases r with
  | maskToInfeed => simpa [State.completeRoute, State.doneMaskToInfeed] using h
  | maskToLane =>
    simp only [State.completeRoute, State.doneMaskToLane]
    exact State.reportEmpty_filmed (by simp [h])
  | infeedToCell => simp [State.completeRoute, State.doneInfeedToCell, h]
  | cellToFlash => simp [State.completeRoute, State.doneCellToFlash, h]
  | coolToExit => simp [State.completeRoute, State.doneCoolToExit, h]
  | coolToSpur =>
    simp only [State.completeRoute, State.doneCoolToSpur]
    exact State.reportEmpty_filmed (by simp [h])

@[simp] theorem State.failTransfer_filmed (r : Route) (n : Nat) (h : s.exchange.mem.filmed) :
    (s.failTransfer r n).exchange.mem.filmed := by
  simp [State.failTransfer, h]

@[simp] theorem State.boundary_filmed (t : Tag) (h : s.exchange.mem.filmed) : (s.boundary t).exchange.mem.filmed := by
  unfold State.boundary
  (repeat' split) <;> simp [h]

@[simp] theorem State.finishWet_filmed (t : Tag) (g : Segment) (a : ApplicatorId) (h : s.exchange.mem.filmed) :
    (s.finishWet t g a).exchange.mem.filmed := by
  simp [State.finishWet, h]

@[simp] theorem State.enterBand_filmed (a : ApplicatorId) (h : s.exchange.mem.filmed) :
    (s.enterBand a).exchange.mem.filmed := by
  unfold State.enterBand
  (repeat' split) <;> simp [h]

@[simp] theorem State.leaveBand_filmed (a : ApplicatorId) (h : s.exchange.mem.filmed) :
    (s.leaveBand a).exchange.mem.filmed := by
  unfold State.leaveBand
  split <;> simp [h]

@[simp] theorem State.changeMonitor_filmed (a : ApplicatorId) (v : PressureState) (n : Nat)
    (h : s.exchange.mem.filmed) : (s.changeMonitor a v n).exchange.mem.filmed := by
  unfold State.changeMonitor
  dsimp only
  (repeat' split) <;> simp [h]

@[simp] theorem State.takeReading_filmed (z : Fin 6) (r : Option Nat) (h : s.exchange.mem.filmed) :
    (s.takeReading z r).exchange.mem.filmed := by
  unfold State.takeReading
  dsimp only
  split <;> simp [h]

@[simp] theorem State.enterOven_filmed (t : Tag) (h : s.exchange.mem.filmed) :
    (s.enterOven t).exchange.mem.filmed := by
  simp [State.enterOven, h]

@[simp] theorem State.exitToCool_filmed (t : Tag) (h : s.exchange.mem.filmed) :
    (s.exitToCool t).exchange.mem.filmed := by
  unfold State.exitToCool
  dsimp only
  split <;> simp [h]

@[simp] theorem State.exitOverrun_filmed (t : Tag) (h : s.exchange.mem.filmed) :
    (s.exitOverrun t).exchange.mem.filmed := by
  unfold State.exitOverrun
  dsimp only
  refine State.reportEmpty_filmed (State.raiseFault_filmed _ _ _ _ (State.append_filmed _ ?_))
  simp only [State.joinHolds_keeps]
  refine State.append_filmed _ ?_
  simpa only [State.assertStop_keeps, State.modifyRecord_keeps] using h

@[simp] theorem State.makeForeign_filmed (l : Location) (h : s.exchange.mem.filmed) :
    (s.makeForeign l).exchange.mem.filmed := by
  unfold State.makeForeign
  split <;> simp [h]

@[simp] theorem State.completeAs_filmed (n : CardId) (kind : Byte) (tag : Word) (r : CardResult)
    (h : s.exchange.mem.filmed) : (s.completeAs n kind tag r).exchange.mem.filmed := by
  have hend : cardAt n + 992 + (r.bytes tag).length ≤ 0x14000 := by
    simp only [cardAt, CardResult.length_bytes]
    omega
  unfold State.completeAs
  exact State.append_filmed _ (by simpa using Memory.filmed_writeBytes h hend)

theorem State.completeCard_filmed (c : TakenCard) (rest : List TakenCard) (r : CardResult)
    (h : s.exchange.mem.filmed) : (s.completeCard c rest r).exchange.mem.filmed := by
  unfold State.completeCard
  exact State.completeAs_filmed _ _ _ _ h

@[simp] theorem State.visit_filmed (v : Visit) (h : s.exchange.mem.filmed) : (s.visit v).exchange.mem.filmed := by
  cases v <;> simp only [State.visit, State.abortCard, State.reportHeld] <;> split <;> simp [h]

/-! ### Received messages -/

theorem State.takeSegStarted_filmed (tag : Byte) (i : Half) (h : s.exchange.mem.filmed) :
    (s.takeSegStarted tag i).exchange.mem.filmed := by
  unfold State.takeSegStarted
  dsimp only
  (repeat' split) <;> simp [h]

theorem State.takeSegDone_filmed (tag : Byte) (i : Half) (h : s.exchange.mem.filmed) :
    (s.takeSegDone tag i).exchange.mem.filmed := by
  unfold State.takeSegDone
  (repeat' split) <;> simp [h]

theorem State.takeMotionFault_filmed (h : s.exchange.mem.filmed) : s.takeMotionFault.exchange.mem.filmed := by
  unfold State.takeMotionFault
  split <;> simp [h]

theorem State.takePressure_filmed (a : Byte) (p : Half) (h : s.exchange.mem.filmed) :
    (s.takePressure a p).exchange.mem.filmed := by
  unfold State.takePressure
  dsimp only
  (repeat' split) <;> simp [h]

theorem State.takeArrival_filmed (n : Option Serial) (h : s.exchange.mem.filmed) :
    (s.takeArrival n).exchange.mem.filmed := by
  unfold State.takeArrival
  dsimp only
  (repeat' split) <;> simp [h]

theorem State.takeMaskResult_filmed (i : Byte) (v : MaskResult) (h : s.exchange.mem.filmed) :
    (s.takeMaskResult i v).exchange.mem.filmed := by
  unfold State.takeMaskResult
  dsimp only
  (repeat' split) <;> simp [h]

theorem State.takeTransferDone_filmed (r : Route) (h : s.exchange.mem.filmed) :
    (s.takeTransferDone r).exchange.mem.filmed := by
  unfold State.takeTransferDone
  (repeat' split) <;> simp [h]

theorem State.takeTransferFault_filmed (r : Route) (h : s.exchange.mem.filmed) :
    (s.takeTransferFault r).exchange.mem.filmed := by
  unfold State.takeTransferFault
  split <;> simp [h]

theorem State.takeSlotState_filmed (n : Byte) (r : SlotReport) (h : s.exchange.mem.filmed) :
    (s.takeSlotState n r).exchange.mem.filmed := by
  unfold State.takeSlotState
  dsimp only
  (repeat' split) <;> simp [h]

theorem State.takeGuard_filmed (g : GuardState) (h : s.exchange.mem.filmed) :
    (s.takeGuard g).exchange.mem.filmed := by
  unfold State.takeGuard
  cases g <;> dsimp only <;> split <;> simp [h]

theorem State.takeOvenSample_filmed (v : Vector Half 6) (d : Half) (h : s.exchange.mem.filmed) :
    (s.takeOvenSample v d).exchange.mem.filmed := by
  unfold State.takeOvenSample
  simp only [State.driveGate_keeps, State.mapCure_keeps,
    foldRecords_keeps (fun s t => BoardRecord.sample s.oven (s.boardCoating t) s.cure.zones (min 4095 d.toNat))]
  exact List.foldlRecOn (motive := fun u : State => u.exchange.mem.filmed) _ _ (by simpa using h)
    fun u hu z _ => State.takeReading_filmed z _ hu

theorem State.takeEntrySeen_filmed (h : s.exchange.mem.filmed) : s.takeEntrySeen.exchange.mem.filmed := by
  unfold State.takeEntrySeen
  split <;> simp [h]

theorem State.takeExitSeen_filmed (h : s.exchange.mem.filmed) : s.takeExitSeen.exchange.mem.filmed := by
  unfold State.takeExitSeen
  dsimp only
  (repeat' split) <;> simp [h]

/-- A message keeps the map cells in bounds. -/
theorem State.Delivers.filmed {t : State} (hm : s.Delivers t) (h : s.exchange.mem.filmed) : t.exchange.mem.filmed := by
  cases hm with
  | ignored => exact h
  | segStarted tag index => exact State.takeSegStarted_filmed tag index h
  | segDone tag index => exact State.takeSegDone_filmed tag index h
  | motionFault => exact State.takeMotionFault_filmed h
  | pressure applicator kPa => exact State.takePressure_filmed applicator kPa h
  | arrival serial => exact State.takeArrival_filmed serial h
  | maskResult index value => exact State.takeMaskResult_filmed index value h
  | transferDone r => exact State.takeTransferDone_filmed r h
  | transferFault r => exact State.takeTransferFault_filmed r h
  | slotState slot report => exact State.takeSlotState_filmed slot report h
  | guard g => exact State.takeGuard_filmed g h
  | ovenSample readings delta => exact State.takeOvenSample_filmed readings delta h
  | entrySeen => exact State.takeEntrySeen_filmed h
  | exitSeen => exact State.takeExitSeen_filmed h

/-! ### Cards -/

theorem State.zeroForRecipe_filmed (id : RecipeId) (r : Recipe) (h : s.exchange.mem.filmed) :
    (s.zeroForRecipe id r).exchange.mem.filmed := by
  unfold State.zeroForRecipe
  exact List.foldlRecOn (motive := fun u : State => u.exchange.mem.filmed) _ _ h
    fun u hu f _ => Memory.filmed_clearWhere hu _

theorem State.clearSlots_filmed (h : s.exchange.mem.filmed) : s.clearSlots.exchange.mem.filmed :=
  List.foldlRecOn (motive := fun u : State => u.exchange.mem.filmed) _ _ h
    fun _ hu n _ => State.setSlot_filmed n .free hu

theorem State.clearCell_filmed (h : s.exchange.mem.filmed) : s.clearCell.exchange.mem.filmed := by
  unfold State.clearCell
  dsimp only
  split <;> simp [h]

/-- The boards that a line clear converts are records and places in the hold order, and no memory. -/
@[simp] theorem foldClearBoard_exchange (s : State) (l : List Tag) :
    (l.foldl State.clearBoard s).exchange = s.exchange :=
  foldl_keeps (·.exchange) State.clearBoard (fun u t => by simp [State.clearBoard]) s l

theorem State.clearLine_filmed (h : s.exchange.mem.filmed) : s.clearLine.exchange.mem.filmed := by
  unfold State.clearLine
  dsimp only
  refine State.changeMode_filmed _ ?_
  simp only [State.clearOven_keeps]
  exact State.clearCell_filmed (State.clearSlots_filmed (by simpa [State.clearLists, State.clearFrames] using h))

/-- A card keeps the map cells in bounds. -/
theorem Instr.cardEffect_filmed {i : Instr} {apply : TakenCard → State → State × CardResult}
    (hi : Instr.cardEffect i = some apply) (c : TakenCard) (h : s.exchange.mem.filmed) :
    (apply c s).1.exchange.mem.filmed := by
  have judged {checks : List Check} {effect : State → State × CardResult}
      (heffect : (effect s).1.exchange.mem.filmed) : (judge checks effect s).1.exchange.mem.filmed :=
    judge_induct (P := fun u => u.exchange.mem.filmed) h fun _ => heffect
  cases i <;> cases hi
  case refusedKind => exact h
  case applicatorLoad | coatingLoad | patchClear | admitCard => exact judged h
  case recipeLoad => exact judged (State.zeroForRecipe_filmed _ _ h)
  case pathLoad =>
    refine judged ?_
    unfold State.loadChunk
    dsimp only
    split <;> exact h
  case patchSet =>
    refine judged ?_
    split <;> exact h
  case ovenLoad => exact judged (by simpa using h)
  case withdrawCard =>
    refine judged ?_
    (repeat' split) <;> simp [h]
  case disposeRelease | disposeScrap => exact judged (by simp [State.disposeOf, h])
  case disposeRecoat =>
    refine judged ?_
    simp only [State.recoat, State.driveLoader_keeps]
    refine State.makeForeign_filmed _ ?_
    unfold State.reserveFrame
    split <;> simpa using h
  case reclaimMap =>
    refine judged ?_
    split <;> simp [h]
  case declareClear =>
    refine judged ?_
    dsimp only
    exact State.clearLine_filmed h
  case resumeCell =>
    refine judged ?_
    dsimp only
    exact State.pathEnd_filmed _ _ h

/-! ### Host writes, resets and internal commands -/

/-- The windows that a host write can reach end below the map frames (R24). -/
theorem windowOf_spec (offset : Nat) :
    (windowOf offset = .hostHeader ∧ 0x100 ≤ offset ∧ offset < 0x200) ∨
      (∃ n : CardId, windowOf offset = .entry n ∧ 0x200 + 4 * n.val ≤ offset ∧ offset < 0x200 + 4 * n.val + 4) ∨
      (∃ n : CardId, windowOf offset = .card n ∧ inCard n offset) ∨
      (windowOf offset = .closed ∧
        (offset < 0x100 ∨ (0x300 ≤ offset ∧ offset < 0x4000) ∨ 0x14000 ≤ offset)) := by
  unfold windowOf
  split_ifs with hheader hentry hcard
  · exact .inl ⟨rfl, hheader⟩
  · refine .inr (.inl ⟨_, rfl, ?_⟩)
    simp only [Fin.val_ofNat]
    omega
  · refine .inr (.inr (.inl ⟨_, rfl, ?_⟩))
    simp only [inCard, cardAt, Fin.val_ofNat]
    omega
  · exact .inr (.inr (.inr ⟨rfl, by omega⟩))

theorem State.hostWrite_filmed (address : BitVec 15) (data : Word) (h : s.exchange.mem.filmed) :
    (s.hostWrite (byteOffset address) data).exchange.mem.filmed := by
  have stored (hbelow : byteOffset address < 0x14000) :
      (s.exchange.mem.writeBytes (byteOffset address) (le32 data)).filmed := by
    refine Memory.filmed_writeBytes h ?_
    simp only [byteOffset, length_le32] at hbelow ⊢
    omega
  unfold State.hostWrite
  obtain ⟨hwindow, -, hend⟩ | ⟨n, hwindow, -⟩ | ⟨n, hwindow, -, hend⟩ | ⟨hwindow, -⟩ :=
    windowOf_spec (byteOffset address) <;> simp only [hwindow]
  · exact stored (by omega)
  · unfold State.writeEntry
    split <;> exact h
  · unfold State.writeCard
    split
    · exact stored (by simp only [cardAt] at hend; omega)
    · exact h
  · exact h

theorem State.writeRegister_filmed (position : BitVec 3) (data : Word) (h : s.exchange.mem.filmed) :
    (s.writeRegister position data).exchange.mem.filmed := by
  have requested (m : LineMode) : (s.requestMode m).exchange.mem.filmed := by
    unfold State.requestMode
    split <;> simp [h]
  unfold State.writeRegister
  split
  · unfold State.writeLineCtl
    split
    · exact requested _
    · exact requested _
    · exact requested _
    · exact h
  all_goals exact h

theorem State.resetBy_filmed (cause : ResetKind) (extent : ResetExtent) (h : s.exchange.mem.filmed) :
    (s.resetBy cause extent).exchange.mem.filmed := by
  have hempty : Memory.filmed [] := ⟨Memory.wf_nil, fun f column row _ _ => Nat.zero_le _⟩
  have hbegun (u : State) (hu : u.exchange.mem.filmed) (kind : ResetKind) :
      (u.beginRestart kind).exchange.mem.filmed := by
    refine State.append_filmed _ (Memory.filmed_clearWhere ?_ _)
    cases kind with
    | powerOn => exact hempty
    | supplyDip => exact hu
    | pin => exact hu
  cases extent with
  | held => exact h
  | restart visits =>
    exact List.foldlRecOn (motive := fun u : State => u.exchange.mem.filmed) _ _
      (hbegun (s.noteCause cause) h _) fun _ hu v _ => State.visit_filmed v hu

theorem State.Acts.filmed {t : State} (ha : s.Acts t) (h : s.exchange.mem.filmed) : t.exchange.mem.filmed := by
  cases ha with
  | nothing | tick | transmit | flashOff | openTime => exact h
  | verification _ => exact State.completeVerification_filmed _ _ h
  | transferStart _ => exact State.startRoute_filmed _ _ h
  | transferDeadline _ => exact State.failTransfer_filmed _ _ h
  | segmentDeadline _ => exact State.abort_filmed _ _ h
  | pressureSilence a sample => exact State.changeMonitor_filmed _ _ _ (by simpa using h)
  | flashOffHead t i => simpa using h
  | ovenSilent =>
    refine State.append_filmed _ ?_
    simpa [foldRecords_keeps fun _ _ => BoardRecord.addReason .cureUnverified] using h
  | recoatExpired t => exact State.append_filmed _ h

/-- Each part of an event keeps the memory in its form and the map cells in bounds. -/
theorem eventsKeep_filmed : EventsKeep fun s => s.exchange.mem.filmed where
  queue _ h := h
  visit v h := State.visit_filmed v h
  run h := h
  hostWrite address data h := State.hostWrite_filmed address data h
  writeRegister position data h := State.writeRegister_filmed position data h
  clearScan h := h
  walk first visits h := by simpa using h
  card hi _ c h := Instr.cardEffect_filmed hi c h
  completeCard c rest r h := State.completeCard_filmed c rest r h
  message hm h := hm.filmed h
  receiver _ _ h := h
  internal ha h := ha.filmed h
  reset cause extent h := State.resetBy_filmed cause extent h

/-- Settles O56, by the induction over the parts of an event: each writes outside the map frames, zeroes cells, or
deposits at most 4095. -/
theorem stepsKeepMemoryAndFilm : Obligations.StepsKeepMemoryAndFilm := by
  intro s t hcanonical hfilm hstep
  obtain ⟨hwf, hcells⟩ := eventsKeep_filmed.step (s := s) ⟨hcanonical, hfilm⟩ hstep
  exact ⟨hwf, hcells⟩

end Sys2Proof.Machine
end

section
/-! PROOFS. What the shared operations leave of the Board Tracker: the lists and routes (R13, R15), and of each board
record its identity and its reasons (R8, R12). -/

namespace Sys2Proof.Machine

/-! ### The lists and routes of the tracker -/

/-- The admissions, the position lists and the routes: the tracker without its records, its flash-off items and the
loader-ready level. -/
def Tracker.layout (k : Tracker) : Tracker :=
  { k with boards := Vector.replicate 32 BoardRecord.blank, flash := Vector.replicate 32 none, loaderReady := false }

@[simp] theorem Tracker.layout_admissions (k : Tracker) : k.layout.admissions = k.admissions := rfl

@[simp] theorem Tracker.layout_source (k : Tracker) (r : Route) : k.layout.source r = k.source r := by
  cases r <;> rfl

@[simp] theorem Tracker.layout_route (k : Tracker) (r : Route) : k.layout.route r = k.route r := by
  cases r <;> rfl

@[simp] theorem Tracker.layout_boards (k : Tracker) (v : Vector BoardRecord 32) :
    ({ k with boards := v } : Tracker).layout = k.layout := rfl

@[simp] theorem Tracker.layout_flash (k : Tracker) (v : Vector (Option FlashItems) 32) :
    ({ k with flash := v } : Tracker).layout = k.layout := rfl

@[simp] theorem Tracker.layout_loaderReady (k : Tracker) (b : Bool) :
    ({ k with loaderReady := b } : Tracker).layout = k.layout := rfl

variable (s : State)

@[simp] theorem State.setFlash_layout (t : Tag) (i : Option FlashItems) :
    (s.setFlash t i).tracker.layout = s.tracker.layout := rfl

@[simp] theorem State.driveLoader_layout : s.driveLoader.tracker.layout = s.tracker.layout := by
  unfold State.driveLoader
  split <;> simp

@[simp] theorem State.takeFrame_layout (f : FrameId) (t : Tag) :
    (s.takeFrame f t).tracker.layout = s.tracker.layout := by
  simp [State.takeFrame]

@[simp] theorem State.allocate_layout (t : Tag) : (s.allocate t).tracker.layout = s.tracker.layout := by
  unfold State.allocate
  (repeat' split) <;> simp

@[simp] theorem State.pathEnd_layout (t : Tag) (e : PathEnd) :
    (s.pathEnd t e).tracker.layout = s.tracker.layout := by
  simp [State.pathEnd, Tracker.layout]

@[simp] theorem State.pressureCheck_layout (t : Tag) (a : ApplicatorId) :
    (s.pressureCheck t a).tracker.layout = s.tracker.layout := by
  unfold State.pressureCheck
  split <;> simp

@[simp] theorem State.fetch_layout (t : Tag) : (s.fetch t).tracker.layout = s.tracker.layout := by
  unfold State.fetch
  dsimp only
  (repeat' split) <;> simp

@[simp] theorem State.abort_layout (c : StopCause) (a : Option ApplicatorId) :
    (s.abort c a).tracker.layout = s.tracker.layout := by
  unfold State.abort
  dsimp only
  split <;> simp

@[simp] theorem State.abortActive_layout (c : StopCause) : (s.abortActive c).tracker.layout = s.tracker.layout := by
  unfold State.abortActive
  split <;> simp

@[simp] theorem State.leavePaused_layout : s.leavePaused.tracker.layout = s.tracker.layout := by
  unfold State.leavePaused
  (repeat' split) <;> simp

@[simp] theorem State.cellOnMode_layout : s.cellOnMode.tracker.layout = s.tracker.layout := by
  unfold State.cellOnMode
  (repeat' split) <;> simp

@[simp] theorem State.handMode_layout : s.handMode.tracker.layout = s.tracker.layout := by
  simp [State.handMode]

@[simp] theorem State.changeMode_layout (m : LineMode) : (s.changeMode m).tracker.layout = s.tracker.layout := by
  simp [State.changeMode]

@[simp] theorem State.reportEmpty_layout : s.reportEmpty.tracker.layout = s.tracker.layout := by
  unfold State.reportEmpty
  split <;> simp

@[simp] theorem State.raiseFault_layout (c : FaultCode) (r : Option Route) (t : Option Tag) (n : Nat) :
    (s.raiseFault c r t n).tracker.layout = s.tracker.layout := by
  unfold State.raiseFault
  dsimp only
  split <;> simp

@[simp] theorem State.requestMode_layout (m : LineMode) : (s.requestMode m).tracker.layout = s.tracker.layout := by
  unfold State.requestMode
  split <;> simp

@[simp] theorem State.sprayStart_layout (t : Tag) : (s.sprayStart t).tracker.layout = s.tracker.layout := by
  unfold State.sprayStart
  dsimp only
  (repeat' split) <;> simp

@[simp] theorem State.completeVerification_layout (t : Tag) (n : Nat) :
    (s.completeVerification t n).tracker.layout = s.tracker.layout := by
  simp [State.completeVerification]

@[simp] theorem State.startVerification_layout (t : Tag) :
    (s.startVerification t).tracker.layout = s.tracker.layout := by
  unfold State.startVerification
  dsimp only
  split <;> simp

@[simp] theorem State.takeMaskResult_layout (i : Byte) (v : MaskResult) :
    (s.takeMaskResult i v).tracker.layout = s.tracker.layout := by
  unfold State.takeMaskResult
  dsimp only
  (repeat' split) <;> simp

@[simp] theorem State.divert_layout : s.divert.tracker.layout = s.tracker.layout := by
  unfold State.divert
  split <;> simp

@[simp] theorem State.boundary_layout (t : Tag) : (s.boundary t).tracker.layout = s.tracker.layout := by
  unfold State.boundary
  (repeat' split) <;> simp

@[simp] theorem State.takeSegStarted_layout (tag : Byte) (i : Half) :
    (s.takeSegStarted tag i).tracker.layout = s.tracker.layout := by
  unfold State.takeSegStarted
  dsimp only
  (repeat' split) <;> simp

@[simp] theorem State.takeSegDone_layout (tag : Byte) (i : Half) :
    (s.takeSegDone tag i).tracker.layout = s.tracker.layout := by
  unfold State.takeSegDone
  dsimp only
  (repeat' split) <;> simp

@[simp] theorem State.takeMotionFault_layout : s.takeMotionFault.tracker.layout = s.tracker.layout := by
  unfold State.takeMotionFault
  split <;> simp

@[simp] theorem State.enterBand_layout (a : ApplicatorId) : (s.enterBand a).tracker.layout = s.tracker.layout := by
  unfold State.enterBand
  (repeat' split) <;> simp

@[simp] theorem State.leaveBand_layout (a : ApplicatorId) : (s.leaveBand a).tracker.layout = s.tracker.layout := by
  unfold State.leaveBand
  split <;> simp

@[simp] theorem State.changeMonitor_layout (a : ApplicatorId) (v : PressureState) (n : Nat) :
    (s.changeMonitor a v n).tracker.layout = s.tracker.layout := by
  unfold State.changeMonitor
  dsimp only
  (repeat' split) <;> simp

@[simp] theorem State.takePressure_layout (a : Byte) (p : Half) :
    (s.takePressure a p).tracker.layout = s.tracker.layout := by
  unfold State.takePressure
  dsimp only
  (repeat' split) <;> simp

@[simp] theorem State.takeGuard_layout (g : GuardState) : (s.takeGuard g).tracker.layout = s.tracker.layout := by
  unfold State.takeGuard
  cases g <;> dsimp only <;> split <;> simp

@[simp] theorem State.takeSlotState_layout (n : Byte) (r : SlotReport) :
    (s.takeSlotState n r).tracker.layout = s.tracker.layout := by
  unfold State.takeSlotState
  dsimp only
  (repeat' split) <;> simp

@[simp] theorem State.dropBoard_layout (t : Tag) : (s.dropBoard t).tracker.layout = s.tracker.layout := by
  simp [State.dropBoard]

/-- Records changed one after another leave the lists and routes. -/
theorem foldRecords_layout (g : State → Tag → BoardRecord → BoardRecord) (l : List Tag) :
    (l.foldl (fun s t => s.modifyRecord t (g s t)) s).tracker.layout = s.tracker.layout :=
  foldl_keeps (·.tracker.layout) _ (fun u t => by simp) s l

@[simp] theorem State.assertStop_layout : s.assertStop.tracker.layout = s.tracker.layout := by
  unfold State.assertStop
  simp only [State.driveGate_keeps, foldRecords_layout]
  split <;> simp

@[simp] theorem State.exitOverrun_layout (t : Tag) : (s.exitOverrun t).tracker.layout = s.tracker.layout := by
  simp [State.exitOverrun]

@[simp] theorem State.takeOvenSample_layout (v : Vector Half 6) (d : Half) :
    (s.takeOvenSample v d).tracker.layout = s.tracker.layout := by
  unfold State.takeOvenSample
  simp [foldRecords_layout _ (fun s t => BoardRecord.sample s.oven (s.boardCoating t) s.cure.zones (min 4095 d.toNat)),
    foldReadings_keeps (fun z => readingOf v[z.val])]

/-! ### A record's identity and reasons -/

/-- A record has the validity, identity, recipe and pass of another, and its reasons, with others perhaps. -/
structure BoardRecord.same (a b : BoardRecord) : Prop where
  valid : b.valid = a.valid
  serial : b.serial = a.serial
  recipe : b.recipe = a.recipe
  pass : b.pass = a.pass
  reasons : ∀ r : Reason, a.hasReason r = true → b.hasReason r = true

/-- A record with the same identity and the same reason set. -/
theorem BoardRecord.same_of_eq {a b : BoardRecord} (hvalid : b.valid = a.valid) (hserial : b.serial = a.serial)
    (hrecipe : b.recipe = a.recipe) (hpass : b.pass = a.pass) (hreasons : b.reasons = a.reasons) : a.same b :=
  ⟨hvalid, hserial, hrecipe, hpass, fun r h => by simpa only [BoardRecord.hasReason, hreasons] using h⟩

theorem BoardRecord.same_refl (a : BoardRecord) : a.same a := BoardRecord.same_of_eq rfl rfl rfl rfl rfl

theorem BoardRecord.same.trans {a b c : BoardRecord} (h : a.same b) (k : b.same c) : a.same c :=
  ⟨k.valid.trans h.valid, k.serial.trans h.serial, k.recipe.trans h.recipe, k.pass.trans h.pass,
    fun r hr => k.reasons r (h.reasons r hr)⟩

/-- A reason added leaves the others. -/
theorem BoardRecord.same_addReason (a : BoardRecord) (r : Reason) : a.same (a.addReason r) := by
  refine ⟨rfl, rfl, rfl, rfl, fun q hq => ?_⟩
  simp only [BoardRecord.hasReason, BoardRecord.addReason, bne_zero_iff_exists_bit, BitVec.getLsbD_and,
    BitVec.getLsbD_or, Bool.and_eq_true, Bool.or_eq_true] at hq ⊢
  obtain ⟨i, hreason, hmask⟩ := hq
  exact ⟨i, .inl hreason, hmask⟩

theorem BoardRecord.same.addReason {a b : BoardRecord} (h : a.same b) (r : Reason) : a.same (b.addReason r) :=
  h.trans (b.same_addReason r)

theorem BoardRecord.same.addReasonIf {a b : BoardRecord} (h : a.same b) (c : Bool) (r : Reason) :
    a.same (b.addReasonIf c r) := by
  unfold BoardRecord.addReasonIf
  split
  · exact h.addReason r
  · exact h

theorem BoardRecord.same.hold {a b : BoardRecord} (h : a.same b) (l : Location) (time : Time) :
    a.same (b.hold l time) :=
  h.trans (BoardRecord.same_of_eq rfl rfl rfl rfl rfl)

theorem BoardRecord.same_evaluated (a : BoardRecord) (e : Evaluation) : a.same (a.evaluated e) := by
  unfold BoardRecord.evaluated
  refine .addReasonIf (.addReasonIf ?_ _ _) _ _
  exact BoardRecord.same_of_eq rfl rfl rfl rfl rfl

theorem BoardRecord.same_conflict (a : BoardRecord) (i : Nat) : a.same (a.conflict i) :=
  (a.same_addReason .keepOutConflict).trans (BoardRecord.same_of_eq rfl rfl rfl rfl rfl)

theorem BoardRecord.same_enterOven (a : BoardRecord) (now : Time) (m : Sampling) : a.same (a.enterOven now m) := by
  unfold BoardRecord.enterOven
  refine .addReasonIf ?_ _ _
  exact BoardRecord.same_of_eq rfl rfl rfl rfl rfl

theorem BoardRecord.same_sample (a : BoardRecord) (o : OvenTable) (c : Coating) (zones : Vector ZoneValue 6)
    (delta : Nat) : a.same (a.sample o c zones delta) := by
  unfold BoardRecord.sample
  dsimp only
  split
  · exact BoardRecord.same_of_eq rfl rfl rfl rfl rfl
  · refine .addReasonIf (.addReasonIf ?_ _ _) _ _
    exact BoardRecord.same_of_eq rfl rfl rfl rfl rfl

theorem BoardRecord.same_judgeExit (a : BoardRecord) (o : OvenTable) (c : Coating) (now : Time) :
    a.same (a.judgeExit o c now) := by
  unfold BoardRecord.judgeExit
  exact (((a.same_refl.addReasonIf _ .trackingMismatch).addReasonIf _ .undercure).addReasonIf _ .overcure).trans
    (BoardRecord.same_of_eq rfl rfl rfl rfl rfl)

theorem BoardRecord.same_clearLine (a : BoardRecord) (now : Time) : a.same (a.clearLine now) := by
  unfold BoardRecord.clearLine
  exact (a.same_addReason _).hold _ _

theorem BoardRecord.same_restart (a : BoardRecord) : a.same a.restart := by
  unfold BoardRecord.restart
  split
  · split
    · exact ((a.same_addReason .resetInterrupted).hold .none 0).trans (BoardRecord.same_of_eq rfl rfl rfl rfl rfl)
    · exact BoardRecord.same_of_eq rfl rfl rfl rfl rfl
  · exact a.same_refl

/-! ### The records of two states -/

variable {s}

/-- Every record of `t` is that of `s` in identity and reasons. -/
def State.sameRecords (s t : State) : Prop := ∀ n : Tag, (s.record n).same (t.record n)

theorem State.sameRecords.trans {s t u : State} (h : s.sameRecords t) (k : t.sameRecords u) : s.sameRecords u :=
  fun n => (h n).trans (k n)

theorem State.sameRecords_refl (s : State) : s.sameRecords s := fun _ => BoardRecord.same_refl _

theorem State.sameRecords_of_boards {t : State} (h : t.tracker.boards = s.tracker.boards) : s.sameRecords t :=
  fun n => by
    simp only [State.record, h]
    exact BoardRecord.same_refl _

/-- A record changed to one of the same identity, with its reasons. -/
theorem State.sameRecords.modifyRecord {t : State} (h : s.sameRecords t) (n : Tag) {f : BoardRecord → BoardRecord}
    (hf : (t.record n).same (f (t.record n))) : s.sameRecords (t.modifyRecord n f) := fun m => by
  rw [State.record_modifyRecord]
  split
  next heq => exact heq ▸ (h n).trans hf
  next => exact h m

/-- What follows changes no record. -/
theorem State.sameRecords.of_boards {t u : State} (h : s.sameRecords t) (hu : u.tracker.boards = t.tracker.boards) :
    s.sameRecords u :=
  h.trans (State.sameRecords_of_boards hu)

@[simp] theorem State.driveLoader_boards (s : State) : s.driveLoader.tracker.boards = s.tracker.boards := by
  unfold State.driveLoader
  split <;> simp

/-! ### The operations, each after a state with the records of `s` -/

namespace State.sameRecords

variable {t : State} (h : s.sameRecords t)
include h

theorem append (e : Activity) : s.sameRecords (t.append e) := h.of_boards (by simp)

theorem driveGate : s.sameRecords t.driveGate := h.of_boards (by simp)

theorem driveLoader : s.sameRecords t.driveLoader := h.of_boards (by simp)

theorem takeFrame (f : FrameId) (n : Tag) : s.sameRecords (t.takeFrame f n) :=
  (h.of_boards (by simp)).modifyRecord n (BoardRecord.same_of_eq rfl rfl rfl rfl rfl)

theorem allocate (n : Tag) : s.sameRecords (t.allocate n) := by
  unfold State.allocate
  split
  · exact h.of_boards (by simp)
  · split
    · exact h.takeFrame _ n
    · split
      next o f _ =>
        have hgiven : s.sameRecords (t.modifyRecord o fun b => { b with mapFrame := none }) :=
          h.modifyRecord o (BoardRecord.same_of_eq rfl rfl rfl rfl rfl)
        exact (hgiven.takeFrame f n).of_boards (by simp)
      · exact h

theorem pathEnd (n : Tag) (e : PathEnd) : s.sameRecords (t.pathEnd n e) := by
  unfold State.pathEnd
  dsimp only
  have hrecord : s.sameRecords (t.modifyRecord n fun b => { b.evaluated (t.evaluation n) with
      sprayEnd := some t.lineTime }) :=
    h.modifyRecord n ((BoardRecord.same_evaluated _ _).trans (BoardRecord.same_of_eq rfl rfl rfl rfl rfl))
  exact hrecord.of_boards (by simp)

theorem pressureCheck (n : Tag) (a : ApplicatorId) : s.sameRecords (t.pressureCheck n a) := by
  unfold State.pressureCheck
  split <;> exact h.of_boards (by simp)

theorem fetch (n : Tag) : s.sameRecords (t.fetch n) := by
  unfold State.fetch
  dsimp only
  have hindex : s.sameRecords (t.modifyRecord n fun b => { b with lastSegment := some t.sequencer.index }) :=
    h.modifyRecord n (BoardRecord.same_of_eq rfl rfl rfl rfl rfl)
  split
  · exact hindex.of_boards (by simp)
  · split
    · exact pressureCheck (hindex.of_boards (by simp)) n _
    · have hconflict := hindex.modifyRecord n (BoardRecord.same_conflict _ t.sequencer.index)
      split
      · exact hconflict.of_boards (by simp [State.record])
      · exact pathEnd (hconflict.of_boards (by simp [State.record])) n _

theorem abort (c : StopCause) (a : Option ApplicatorId) : s.sameRecords (t.abort c a) := by
  unfold State.abort
  dsimp only
  split
  · exact h.of_boards (by simp)
  next n _ =>
    have hdropped : s.sameRecords (t.closeValve.send .halt).dropSegment := h.of_boards (by simp)
    exact (hdropped.modifyRecord n (BoardRecord.same_addReason _ .sprayIncomplete)).of_boards (by simp)

theorem abortActive (c : StopCause) : s.sameRecords (t.abortActive c) := by
  unfold State.abortActive
  split
  · exact h.abort c none
  · exact h.abort c none
  · exact h

theorem leavePaused : s.sameRecords t.leavePaused := by
  unfold State.leavePaused
  split
  · exact h
  · split
    · split
      · exact fetch (h.of_boards (by simp)) _
      · split <;> exact h.of_boards (by simp)
    · exact h

theorem cellOnMode : s.sameRecords t.cellOnMode := by
  unfold State.cellOnMode
  split
  · split
    · exact h.of_boards (by simp)
    · exact h
  · exact h.leavePaused
  · exact h.leavePaused
  · exact h.abortActive .motion
  · exact h

theorem handMode : s.sameRecords t.handMode := by
  unfold State.handMode
  exact (cellOnMode (h.of_boards (State.driveLoader_boards t))).of_boards (by simp)

theorem changeMode (m : LineMode) : s.sameRecords (t.changeMode m) := by
  unfold State.changeMode
  exact handMode (h.of_boards (by simp))

theorem reportEmpty : s.sameRecords t.reportEmpty := by
  unfold State.reportEmpty
  split
  · exact h.changeMode .ready
  · exact h

theorem raiseFault (c : FaultCode) (r : Option Route) (n : Option Tag) (k : Nat) :
    s.sameRecords (t.raiseFault c r n k) := by
  unfold State.raiseFault
  dsimp only
  split
  · exact handMode (h.of_boards (by simp))
  · exact h.of_boards (by simp)

theorem requestMode (m : LineMode) : s.sameRecords (t.requestMode m) := by
  unfold State.requestMode
  split
  · exact (h.changeMode m).reportEmpty
  · exact h.of_boards (by simp)

theorem sprayStart (n : Tag) : s.sameRecords (t.sprayStart n) := by
  unfold State.sprayStart
  dsimp only
  have hstarted : s.sameRecords (((t.mapSequencer fun q => { q with index := 0, segment := none, phase := .none
      }).modifyRecord n fun b => { b with sprayStart := some t.lineTime }).allocate n) :=
    ((h.of_boards (by simp)).modifyRecord n (BoardRecord.same_of_eq rfl rfl rfl rfl rfl)).allocate n
  split
  · exact (hstarted.modifyRecord n (BoardRecord.same_addReason _ .sprayIncomplete)).of_boards (by simp)
  · exact hstarted.of_boards (by simp)
  · split
    · exact fetch (hstarted.of_boards (by simp)) n
    · exact hstarted.of_boards (by simp)

theorem completeVerification (n : Tag) (k : Nat) : s.sameRecords (t.completeVerification n k) := by
  unfold State.completeVerification
  dsimp only
  have hreason := h.modifyRecord n ((t.record n).same_refl.addReasonIf
    (maskOutcome (t.boardRecipe n).maskPolicy (t.record n).maskResults k == .reject) .maskMissing)
  exact hreason.of_boards (by simp)

theorem startVerification (n : Tag) : s.sameRecords (t.startVerification n) := by
  unfold State.startVerification
  dsimp only
  split
  · exact h.completeVerification n 0
  · exact h.of_boards (by simp)

theorem takeMaskResult (i : Byte) (v : MaskResult) : s.sameRecords (t.takeMaskResult i v) := by
  unfold State.takeMaskResult
  split
  · exact h
  next n _ _ _ =>
    dsimp only
    split
    · have hresult : s.sameRecords (t.modifyRecord n fun b =>
          { b with maskResults := b.maskResults.set (Fin.ofNat 8 i.toNat) v }) :=
        h.modifyRecord n (BoardRecord.same_of_eq rfl rfl rfl rfl rfl)
      split
      · exact hresult
      · exact hresult.completeVerification n _
    · exact h

theorem divert : s.sameRecords t.divert := by
  unfold State.divert
  split
  · exact h
  · exact h.modifyRecord _ (BoardRecord.same_of_eq rfl rfl rfl rfl rfl)

theorem takeSegStarted (tag : Byte) (i : Half) : s.sameRecords (t.takeSegStarted tag i) := by
  unfold State.takeSegStarted
  split
  · exact h
  · dsimp only
    split
    · exact h.of_boards (by simp)
    · split
      · exact h.of_boards (by simp)
      · exact abort (h.of_boards (by simp)) _ _

theorem boundary (n : Tag) : s.sameRecords (t.boundary n) := by
  unfold State.boundary
  split
  · exact h.pathEnd n _
  · split
    · exact h.of_boards (by simp)
    · exact h.fetch n

theorem takeSegDone (tag : Byte) (i : Half) : s.sameRecords (t.takeSegDone tag i) := by
  unfold State.takeSegDone
  split
  · exact h
  · dsimp only
    split <;> exact boundary (h.of_boards (by simp)) _

theorem takeMotionFault : s.sameRecords t.takeMotionFault := by
  unfold State.takeMotionFault
  split
  · exact h.abort _ _
  · exact h

theorem changeMonitor (a : ApplicatorId) (v : PressureState) (k : Nat) : s.sameRecords (t.changeMonitor a v k) := by
  unfold State.changeMonitor
  dsimp only
  have hentry : s.sameRecords ((t.mapMonitor a fun m => { m with state := v }).append
      (.pressure a v (t.monitor a).state k)) := h.of_boards (by simp)
  split
  · exact h
  · split
    · unfold State.enterBand
      split
      · exact hentry
      · split <;> exact hentry.of_boards (by simp)
    · split
      · unfold State.leaveBand
        split
        · exact hentry.abort _ _
        · exact hentry
      · exact hentry

theorem takePressure (a : Byte) (p : Half) : s.sameRecords (t.takePressure a p) := by
  unfold State.takePressure
  dsimp only
  split
  · split
    · exact h.of_boards (by simp)
    · exact changeMonitor (h.of_boards (by simp)) _ _ _
  · exact h

theorem takeGuard (g : GuardState) : s.sameRecords (t.takeGuard g) := by
  unfold State.takeGuard
  split
  · exact h
  · cases g with
    | opened => exact abortActive (h.of_boards (by simp)) _
    | closed => exact leavePaused (h.of_boards (by simp))

theorem takeSlotState (n : Byte) (r : SlotReport) : s.sameRecords (t.takeSlotState n r) := by
  unfold State.takeSlotState
  split
  · dsimp only
    split
    · exact h.of_boards (by simp)
    next n _ =>
      have hremoved : s.sameRecords (t.modifyRecord n fun b => { b with location := .removed }) :=
        h.modifyRecord n (BoardRecord.same_of_eq rfl rfl rfl rfl rfl)
      exact hremoved.of_boards (by simp)
    · exact h.of_boards (by simp)
    · exact h
  · exact h

/-- Records changed one after another, each to one of the same identity with its reasons. -/
theorem foldRecords {g : State → Tag → BoardRecord → BoardRecord} (hg : ∀ u n b, BoardRecord.same b (g u n b))
    (l : List Tag) : s.sameRecords (l.foldl (fun u n => u.modifyRecord n (g u n)) t) :=
  List.foldlRecOn _ _ h fun _ hu n _ => hu.modifyRecord n (hg _ n _)

theorem assertStop : s.sameRecords t.assertStop := by
  unfold State.assertStop
  dsimp only
  have hstopped : s.sameRecords (if t.cure.ovenStop then t
      else (t.mapCure fun c => { c with ovenStop := true }).send (.ovenStop true)) := by
    split
    · exact h
    · exact h.of_boards (by simp)
  exact (hstopped.foldRecords (fun _ _ b => b.same_addReason .ovenStopped) t.cure.oven).of_boards (by simp)

theorem exitOverrun (n : Tag) : s.sameRecords (t.exitOverrun n) := by
  unfold State.exitOverrun
  dsimp only
  have hheld : s.sameRecords (t.modifyRecord n fun b => (b.addReason .exitOverrun).hold .none t.lineTime) :=
    h.modifyRecord n ((BoardRecord.same_addReason _ _).hold _ _)
  exact (raiseFault (hheld.assertStop.of_boards (by simp)) _ _ _ _).reportEmpty

theorem takeOvenSample (v : Vector Half 6) (d : Half) : s.sameRecords (t.takeOvenSample v d) := by
  unfold State.takeOvenSample
  dsimp only
  refine (foldRecords (t := State.mapCure _ (allZones.foldl _ _)) (h.of_boards ?_)
    (g := fun u n => BoardRecord.sample u.oven (u.boardCoating n) u.cure.zones (min 4095 d.toNat))
    (fun _ _ b => b.same_sample _ _ _ _) _).of_boards (by rw [(State.driveGate_keeps _).2.2.2.2.2.1])
  simp [foldReadings_keeps (fun z => readingOf v[z.val])]

end State.sameRecords

end Sys2Proof.Machine
end

section
/-! PROOFS. The boards of the line: what an event does to the admission list and to the identities of the board records,
and the law of the serials (R2). -/

namespace Sys2Proof.Machine

/-! ### What an event does to the boards -/

/-- What an event does to the admission list and to the records' identities: nothing; an entry that joins, leaves or
becomes the record of a free tag; a record freed, perhaps into an entry; or, at a reset, no entry left. -/
inductive State.BoardsChange (s t : State) : Prop
  | kept (admissions : t.tracker.admissions = s.tracker.admissions) (records : s.sameRecords t)
  | admitted (a : Admission) (fresh : s.knownSerial a.serial = false)
      (admissions : t.tracker.admissions = s.tracker.admissions ++ [a]) (records : s.sameRecords t)
  | withdrawn (serial : Serial) (admissions : t.tracker.admissions = removeAdmission serial s.tracker.admissions)
      (records : s.sameRecords t)
  | matched (a : Admission) (n : Tag) (now : Time) (seed : Nat) (listed : a ∈ s.tracker.admissions)
      (free : (s.record n).valid = false)
      (admissions : t.tracker.admissions = removeAdmission a.serial s.tracker.admissions)
      (records : (s.setRecord n (BoardRecord.create a now seed)).sameRecords t)
  | released (n : Tag) (admissions : t.tracker.admissions = s.tracker.admissions)
      (records : (s.modifyRecord n BoardRecord.release).sameRecords t)
  | recoated (n : Tag) (a : Admission) (held : (s.record n).valid = true) (serial : a.serial = (s.record n).serial)
      (admissions : t.tracker.admissions = s.tracker.admissions ++ [a])
      (records : (s.modifyRecord n BoardRecord.release).sameRecords t)
  | restarted (admissions : t.tracker.admissions = [])
      (records : s.sameRecords t ∨ ∀ n, (t.record n).valid = false)

/-- Steps that change neither the admissions nor the records may stand before an event. -/
theorem State.BoardsChange.after {s t u : State} (h : u.BoardsChange t)
    (hadmissions : u.tracker.admissions = s.tracker.admissions) (hboards : u.tracker.boards = s.tracker.boards) :
    s.BoardsChange t := by
  have hrecord (n : Tag) : u.record n = s.record n := by simp only [State.record, hboards]
  have same {v w : State} (hv : v.tracker.boards = w.tracker.boards) (k : w.sameRecords t) : v.sameRecords t :=
    (State.sameRecords_of_boards hv.symm).trans k
  cases h with
  | kept admissions records => exact .kept (admissions.trans hadmissions) (same hboards.symm records)
  | admitted a fresh admissions records =>
    refine .admitted a ?_ (by rw [admissions, hadmissions]) (same hboards.symm records)
    simpa only [State.knownSerial, hadmissions, hrecord] using fresh
  | withdrawn serial admissions records =>
    exact .withdrawn serial (by rw [admissions, hadmissions]) (same hboards.symm records)
  | matched a n now seed listed free admissions records =>
    exact .matched a n now seed (hadmissions ▸ listed) (hrecord n ▸ free) (by rw [admissions, hadmissions])
      (same (by simp [hboards]) records)
  | released n admissions records =>
    exact .released n (admissions.trans hadmissions) (same (by simp [hboards, hrecord]) records)
  | recoated n a held serial admissions records =>
    exact .recoated n a (hrecord n ▸ held) (hrecord n ▸ serial) (by rw [admissions, hadmissions])
      (same (by simp [hboards, hrecord]) records)
  | restarted admissions records =>
    exact .restarted admissions (records.imp_left (same hboards.symm))

/-- And so they may behind it. -/
theorem State.BoardsChange.before {s t u : State} (h : s.BoardsChange t)
    (hadmissions : u.tracker.admissions = t.tracker.admissions) (hboards : u.tracker.boards = t.tracker.boards) :
    s.BoardsChange u := by
  have hrecord (n : Tag) : u.record n = t.record n := by simp only [State.record, hboards]
  cases h with
  | kept admissions records => exact .kept (hadmissions.trans admissions) (records.of_boards hboards)
  | admitted a fresh admissions records =>
    exact .admitted a fresh (hadmissions.trans admissions) (records.of_boards hboards)
  | withdrawn serial admissions records =>
    exact .withdrawn serial (hadmissions.trans admissions) (records.of_boards hboards)
  | matched a n now seed listed free admissions records =>
    exact .matched a n now seed listed free (hadmissions.trans admissions) (records.of_boards hboards)
  | released n admissions records => exact .released n (hadmissions.trans admissions) (records.of_boards hboards)
  | recoated n a held serial admissions records =>
    exact .recoated n a held serial (hadmissions.trans admissions) (records.of_boards hboards)
  | restarted admissions records =>
    refine .restarted (hadmissions.trans admissions) (records.imp (·.of_boards hboards) fun hnone n => ?_)
    rw [hrecord]
    exact hnone n

theorem State.BoardsChange.of_sameRecords {s t : State} (hlayout : t.tracker.layout = s.tracker.layout)
    (hrecords : s.sameRecords t) : s.BoardsChange t :=
  .kept (congrArg Tracker.admissions hlayout :) hrecords

theorem State.BoardsChange.refl (s : State) : s.BoardsChange s := .kept rfl s.sameRecords_refl

/-! ### The admission list through the operations -/

variable (s : State)

theorem State.admissions_of_layout {s t : State} (h : t.tracker.layout = s.tracker.layout) :
    t.tracker.admissions = s.tracker.admissions :=
  (congrArg Tracker.admissions h :)

@[simp] theorem State.driveLoader_admissions : s.driveLoader.tracker.admissions = s.tracker.admissions :=
  State.admissions_of_layout s.driveLoader_layout

@[simp] theorem State.reportEmpty_admissions : s.reportEmpty.tracker.admissions = s.tracker.admissions :=
  State.admissions_of_layout s.reportEmpty_layout

@[simp] theorem State.divert_admissions : s.divert.tracker.admissions = s.tracker.admissions :=
  State.admissions_of_layout s.divert_layout

@[simp] theorem State.sprayStart_admissions (n : Tag) :
    (s.sprayStart n).tracker.admissions = s.tracker.admissions :=
  State.admissions_of_layout (s.sprayStart_layout n)

@[simp] theorem State.raiseFault_admissions (c : FaultCode) (r : Option Route) (n : Option Tag) (k : Nat) :
    (s.raiseFault c r n k).tracker.admissions = s.tracker.admissions :=
  State.admissions_of_layout (s.raiseFault_layout c r n k)

@[simp] theorem State.startVerification_admissions (n : Tag) :
    (s.startVerification n).tracker.admissions = s.tracker.admissions :=
  State.admissions_of_layout (s.startVerification_layout n)

@[simp] theorem State.dropBoard_admissions (n : Tag) :
    (s.dropBoard n).tracker.admissions = s.tracker.admissions :=
  State.admissions_of_layout (s.dropBoard_layout n)

@[simp] theorem State.exitOverrun_admissions (n : Tag) :
    (s.exitOverrun n).tracker.admissions = s.tracker.admissions :=
  State.admissions_of_layout (s.exitOverrun_layout n)

@[simp] theorem Tracker.setSource_admissions (k : Tracker) (r : Route) (l : List Place) :
    (k.setSource r l).admissions = k.admissions := by
  cases r <;> rfl

@[simp] theorem Tracker.setRoute_admissions (k : Tracker) (r : Route) (v : RouteState) :
    (k.setRoute r v).admissions = k.admissions := by
  cases r <;> rfl

@[simp] theorem Tracker.setSource_boards (k : Tracker) (r : Route) (l : List Place) :
    (k.setSource r l).boards = k.boards := by
  cases r <;> rfl

@[simp] theorem Tracker.setRoute_boards (k : Tracker) (r : Route) (v : RouteState) :
    (k.setRoute r v).boards = k.boards := by
  cases r <;> rfl

@[simp] theorem State.endTransfer_admissions (r : Route) :
    (s.endTransfer r).tracker.admissions = s.tracker.admissions := by
  simp [State.endTransfer]

@[simp] theorem State.endTransfer_boards (r : Route) : (s.endTransfer r).tracker.boards = s.tracker.boards := by
  simp [State.endTransfer]

@[simp] theorem State.startRoute_admissions (r : Route) (n : Tag) :
    (s.startRoute r n).tracker.admissions = s.tracker.admissions := by
  unfold State.startRoute
  dsimp only
  (repeat' split) <;> simp [State.beginTransfer]

@[simp] theorem State.startRoute_boards (r : Route) (n : Tag) :
    (s.startRoute r n).tracker.boards = s.tracker.boards := by
  unfold State.startRoute
  dsimp only
  (repeat' split) <;> simp [State.beginTransfer]

/-! ### Transfers -/

variable {s}

theorem State.completeRoute_boardsChange (r : Route) (n : Tag) (slot : Nat) :
    s.BoardsChange (s.completeRoute r n slot) := by
  have staged (g : Stage) : s.sameRecords (s.modifyRecord n fun b => { b with stage := g }) :=
    s.sameRecords_refl.modifyRecord n (BoardRecord.same_of_eq rfl rfl rfl rfl rfl)
  have held (l : Location) : s.sameRecords (s.modifyRecord n (BoardRecord.hold l s.lineTime)) :=
    s.sameRecords_refl.modifyRecord n (BoardRecord.same_refl _ |>.hold l s.lineTime)
  cases r with
  | maskToInfeed =>
    exact .kept (by simp [State.completeRoute, State.doneMaskToInfeed]) ((staged .waitSpray).of_boards
      (by simp [State.completeRoute, State.doneMaskToInfeed, State.record]))
  | maskToLane =>
    refine .kept (by simp [State.completeRoute, State.doneMaskToLane]) ?_
    simp only [State.completeRoute, State.doneMaskToLane]
    exact ((held (.slot (slotOfOperand .maskToLane slot))).of_boards (by simp)).reportEmpty
  | infeedToCell =>
    refine .kept (by simp [State.completeRoute, State.doneInfeedToCell]) ?_
    simp only [State.completeRoute, State.doneInfeedToCell]
    exact ((staged .spraying).of_boards (by simp [State.record])).sprayStart n
  | cellToFlash =>
    exact .kept (by simp [State.completeRoute, State.doneCellToFlash]) ((staged .flashOff).of_boards
      (by simp [State.completeRoute, State.doneCellToFlash, State.record]))
  | coolToExit =>
    refine .released n (by simp [State.completeRoute, State.doneCoolToExit]) ?_
    simp only [State.completeRoute, State.doneCoolToExit]
    have hreleased : (s.modifyRecord n BoardRecord.release).sameRecords
        ((s.freeOwned n).modifyRecord n BoardRecord.release) :=
      State.sameRecords_of_boards (by simp [State.record])
    exact (hreleased.append _).divert.driveGate.driveLoader.reportEmpty
  | coolToSpur =>
    refine .kept (by simp [State.completeRoute, State.doneCoolToSpur]) ?_
    simp only [State.completeRoute, State.doneCoolToSpur]
    have hheld := (held (.slot (slotOfOperand .coolToSpur slot))).of_boards
      (u := ((s.modifyRecord n (BoardRecord.hold (.slot (slotOfOperand .coolToSpur slot)) s.lineTime)).setSlot
        (slotOfOperand .coolToSpur slot) (.assigned n)).joinHolds n) (by simp)
    exact (hheld.append _).divert.driveGate.reportEmpty

/-! ### Messages, internal events, cards and resets -/

theorem State.takeTransferDone_boardsChange (r : Route) : s.BoardsChange (s.takeTransferDone r) := by
  have ended : s.BoardsChange (s.endTransfer r) :=
    .kept (s.endTransfer_admissions r) (State.sameRecords_of_boards (s.endTransfer_boards r))
  unfold State.takeTransferDone
  split
  · split
    · exact ended
    · exact (State.completeRoute_boardsChange r _ _).after (s.endTransfer_admissions r) (s.endTransfer_boards r)
  · exact .refl s

theorem State.failTransfer_boardsChange (r : Route) (cause : Nat) : s.BoardsChange (s.failTransfer r cause) := by
  unfold State.failTransfer
  exact .kept (by simp) (State.sameRecords.raiseFault (State.sameRecords_of_boards (by simp)) _ _ _ _)

theorem State.matchArrival_boardsChange {n : Tag} {a : Admission} (hlisted : a ∈ s.tracker.admissions)
    (hfree : (s.record n).valid = false) : s.BoardsChange (s.matchArrival n a) := by
  refine .matched a n s.lineTime s.freeCount hlisted hfree (by simp [State.matchArrival]) ?_
  unfold State.matchArrival
  dsimp only
  refine State.sameRecords.startVerification (State.sameRecords.append (State.sameRecords.driveLoader ?_) _) n
  exact State.sameRecords_of_boards (by simp)

theorem State.mem_freeTags {n : Tag} : n ∈ s.freeTags ↔ (s.record n).valid = false := by
  simp [State.freeTags, allTags]

theorem State.takeArrival_boardsChange (serial : Option Serial) : s.BoardsChange (s.takeArrival serial) := by
  have reported (e : Activity) : s.BoardsChange (s.append e) := .kept (by simp) (s.sameRecords_refl.append e)
  unfold State.takeArrival
  dsimp only
  split
  · split
    · exact reported _
    · split
      · exact reported _
      next a hfound =>
        split
        · exact .refl s
        next n l hfree =>
          exact State.matchArrival_boardsChange (List.mem_of_find?_eq_some hfound)
            (State.mem_freeTags.mp (hfree ▸ List.mem_cons_self))
  · exact reported _

theorem State.enterOven_boardsChange (n : Tag) : s.BoardsChange (s.enterOven n) := by
  refine .kept (by simp [State.enterOven, State.setFlash]) ?_
  unfold State.enterOven
  dsimp only
  have hentered := (State.sameRecords_of_boards (s := s)
    (t := (((s.mapTracker fun k => { k with flashOff := k.flashOff.tail }).setFlash n none).mapCure fun c =>
      { c with oven := c.oven ++ [n] })) rfl).modifyRecord n (BoardRecord.same_enterOven _ s.lineTime s.cure.sampling)
  exact (State.sameRecords.append (hentered.of_boards (by simp)) _).driveGate

theorem State.takeExitSeen_boardsChange : s.BoardsChange s.takeExitSeen := by
  unfold State.takeExitSeen
  split
  · exact .of_sameRecords (by simp) (s.sameRecords_refl.raiseFault _ _ _ _)
  next n l _ =>
    dsimp only
    have hjudged := (State.sameRecords_of_boards (s := s) (t := s.mapCure fun c => { c with oven := l })
      rfl).modifyRecord n (BoardRecord.same_judgeExit _ s.oven (s.boardCoating n) s.lineTime)
    split
    · unfold State.exitToCool
      dsimp only
      refine .kept (by split <;> simp) ?_
      have hstage := (hjudged.of_boards (u := ((s.mapCure fun c => { c with oven := l }).modifyRecord n
        (BoardRecord.judgeExit s.oven (s.boardCoating n) s.lineTime)).mapTracker fun k =>
          { k with cool := joinTail k.cool n }) rfl).modifyRecord n (f := fun b => { b with stage := .cooling })
          (BoardRecord.same_of_eq rfl rfl rfl rfl rfl)
      split
      · exact (hstage.append _).divert.driveGate
      · exact (hstage.append _).driveGate
    · exact .kept (by simp) (hjudged.exitOverrun n)

theorem State.Delivers.boardsChange {t : State} (h : s.Delivers t) : s.BoardsChange t := by
  have hrefl := s.sameRecords_refl
  cases h with
  | ignored => exact .refl s
  | segStarted tag index => exact .of_sameRecords (by simp) (hrefl.takeSegStarted tag index)
  | segDone tag index => exact .of_sameRecords (by simp) (hrefl.takeSegDone tag index)
  | motionFault => exact .of_sameRecords (by simp) hrefl.takeMotionFault
  | pressure applicator kPa => exact .of_sameRecords (by simp) (hrefl.takePressure applicator kPa)
  | arrival serial => exact State.takeArrival_boardsChange serial
  | maskResult index value => exact .of_sameRecords (by simp) (hrefl.takeMaskResult index value)
  | transferDone r => exact State.takeTransferDone_boardsChange r
  | transferFault r =>
    unfold State.takeTransferFault
    split
    · exact State.failTransfer_boardsChange r 1
    · exact .refl s
  | slotState slot report => exact .of_sameRecords (by simp) (hrefl.takeSlotState slot report)
  | guard g => exact .of_sameRecords (by simp) (hrefl.takeGuard g)
  | ovenSample readings delta => exact .of_sameRecords (by simp) (hrefl.takeOvenSample readings delta)
  | entrySeen =>
    unfold State.takeEntrySeen
    split
    · exact State.enterOven_boardsChange _
    · exact .of_sameRecords (by simp) (hrefl.raiseFault _ _ _ _)
    · exact .of_sameRecords (by simp) (hrefl.raiseFault _ _ _ _)
  | exitSeen => exact State.takeExitSeen_boardsChange

theorem State.Acts.boardsChange {t : State} (h : s.Acts t) : s.BoardsChange t := by
  have hrefl := s.sameRecords_refl
  cases h with
  | nothing | tick | transmit | flashOff => exact .kept rfl hrefl
  | verification _ => exact .of_sameRecords (by simp) (hrefl.completeVerification _ _)
  | transferStart _ => exact .kept (by simp) (State.sameRecords_of_boards (by simp))
  | transferDeadline _ => exact State.failTransfer_boardsChange _ _
  | segmentDeadline _ => exact .of_sameRecords (by simp) (hrefl.abort _ _)
  | pressureSilence a sample =>
    exact .of_sameRecords (by simp) (State.sameRecords.changeMonitor (hrefl.of_boards (by simp)) _ _ _)
  | flashOffHead t i => exact .of_sameRecords (by simp) (State.sameRecords_of_boards (by simp [State.setFlash]))
  | openTime t i =>
    exact .of_sameRecords (by simp) ((hrefl.of_boards (u := s.setFlash t (some { i with openDeadline := none }))
      rfl).modifyRecord t (BoardRecord.same_addReason _ _))
  | ovenSilent =>
    refine .of_sameRecords (by simp [foldRecords_layout]) (State.sameRecords.append ?_ _)
    exact State.sameRecords.foldRecords (t := s.mapCure _) (hrefl.of_boards rfl)
      (fun _ _ b => b.same_addReason .cureUnverified) _
  | recoatExpired t =>
    exact .of_sameRecords (by simp) ((hrefl.modifyRecord t (BoardRecord.same_of_eq rfl rfl rfl rfl rfl)).append _)

/-! ### Cards -/

@[simp] theorem State.reserveFrame_keeps (s : State) (f : Option FrameId) (pass : Nat) :
    (s.reserveFrame f pass).tracker = s.tracker ∧ (s.reserveFrame f pass).exchange = s.exchange ∧
      (s.reserveFrame f pass).tables = s.tables ∧ (s.reserveFrame f pass).sequencer = s.sequencer ∧
      (s.reserveFrame f pass).cure = s.cure ∧ (s.reserveFrame f pass).ports = s.ports := by
  unfold State.reserveFrame
  split <;> simp

@[simp] theorem State.zeroForRecipe_keeps (s : State) (id : RecipeId) (r : Recipe) :
    (s.zeroForRecipe id r).tracker = s.tracker ∧ (s.zeroForRecipe id r).tables = s.tables ∧
      (s.zeroForRecipe id r).sequencer = s.sequencer ∧ (s.zeroForRecipe id r).coverage = s.coverage ∧
      (s.zeroForRecipe id r).cure = s.cure ∧ (s.zeroForRecipe id r).ports = s.ports := by
  unfold State.zeroForRecipe
  refine ⟨foldl_keeps (·.tracker) _ ?_ s _, foldl_keeps (·.tables) _ ?_ s _, foldl_keeps (·.sequencer) _ ?_ s _,
    foldl_keeps (·.coverage) _ ?_ s _, foldl_keeps (·.cure) _ ?_ s _, foldl_keeps (·.ports) _ ?_ s _⟩ <;>
      exact fun _ _ => rfl

/-- The boards converted by a line clear keep their identity and their reasons. -/
theorem foldClearBoard_sameRecords (s : State) (l : List Tag) : s.sameRecords (l.foldl State.clearBoard s) :=
  List.foldlRecOn l State.clearBoard s.sameRecords_refl fun u hu n _ => by
    unfold State.clearBoard
    exact (hu.modifyRecord n (BoardRecord.same_clearLine _ u.lineTime)).of_boards (by simp)

@[simp] theorem foldClearBoard_layout (s : State) (l : List Tag) :
    (l.foldl State.clearBoard s).tracker.layout = s.tracker.layout :=
  foldl_keeps (·.tracker.layout) State.clearBoard (fun u t => by simp [State.clearBoard]) s l

@[simp] theorem foldClearBoard_admissions (s : State) (l : List Tag) :
    (l.foldl State.clearBoard s).tracker.admissions = s.tracker.admissions :=
  State.admissions_of_layout (foldClearBoard_layout s l)

@[simp] theorem State.changeMode_admissions (s : State) (m : LineMode) :
    (s.changeMode m).tracker.admissions = s.tracker.admissions :=
  State.admissions_of_layout (s.changeMode_layout m)

@[simp] theorem State.clearLists_admissions (s : State) : s.clearLists.tracker.admissions = s.tracker.admissions := rfl

@[simp] theorem State.clearLists_boards (s : State) : s.clearLists.tracker.boards = s.tracker.boards := rfl

theorem State.clearLine_boardsChange : s.BoardsChange s.clearLine := by
  unfold State.clearLine
  dsimp only
  refine .kept (by simp [State.clearFrames]) (State.sameRecords.changeMode ?_ _)
  have hcleared := foldClearBoard_sameRecords { s with verifier := Verifier.reset }
    ({ s with verifier := Verifier.reset } : State).transportTags
  exact State.sameRecords.trans (t := { s with verifier := Verifier.reset }) (State.sameRecords_of_boards rfl)
    (hcleared.of_boards (by simp [State.clearFrames]))

/-- The entry that a recoat puts into the admission list (R163). -/
theorem State.recoat_boardsChange {n : Tag} (hvalid : (s.record n).valid = true) : s.BoardsChange (s.recoat n).1 := by
  refine .recoated n _ hvalid ?_ (by simp only [State.recoat, State.driveLoader_admissions, State.makeForeign_keeps,
    State.dropBoard_admissions, State.reserveFrame_keeps, State.mapTracker_tracker]; rfl) ?_
  · rfl
  · refine State.sameRecords_of_boards ?_
    simp [State.recoat, State.dropBoard, State.record]

theorem State.disposeOf_boardsChange (a : Action) (n : Tag) : s.BoardsChange (s.disposeOf a n).1 := by
  refine .released n (by simp [State.disposeOf]) (State.sameRecords_of_boards ?_)
  simp [State.disposeOf, State.dropBoard, State.record]

theorem allPass_valid {c : TakenCard} {checks : List Check} (h : allPass (s.disposeChecks c ++ checks)) :
    (s.record c.boardTag).valid = true := by
  have hvalid := h (!(s.record c.boardTag).valid, result .refusedUnknown [1]) (by simp [State.disposeChecks])
  simpa using hvalid

theorem Instr.cardEffect_boardsChange {i : Instr} {apply : TakenCard → State → State × CardResult}
    (hi : Instr.cardEffect i = some apply) (c : TakenCard) : s.BoardsChange (apply c s).1 := by
  have judged {checks : List Check} {effect : State → State × CardResult}
      (heffect : allPass checks → s.BoardsChange (effect s).1) : s.BoardsChange (judge checks effect s).1 :=
    judge_induct (P := s.BoardsChange) (.refl s) heffect
  have unchanged {t : State} (h : t.tracker = s.tracker) : s.BoardsChange t :=
    (State.BoardsChange.refl s).before (by rw [h]) (by rw [h])
  cases i <;> cases hi
  case refusedKind => exact .refl s
  case applicatorLoad | coatingLoad | patchClear => exact judged fun _ => unchanged rfl
  case recipeLoad => exact judged fun _ => unchanged (by simp)
  case pathLoad =>
    refine judged fun _ => unchanged ?_
    unfold State.loadChunk
    dsimp only
    split <;> rfl
  case patchSet =>
    refine judged fun _ => ?_
    split <;> exact unchanged rfl
  case ovenLoad => exact judged fun _ => unchanged (by simp)
  case admitCard =>
    refine judged fun hpass => .admitted c.admitted ?_ rfl (State.sameRecords_of_boards rfl)
    exact hpass (s.knownSerial (c.u64 16), result .refusedDuplicate []) (by simp [State.admitChecks])
  case withdrawCard =>
    refine judged fun _ => ?_
    split
    · exact .refl s
    · refine .withdrawn (c.u64 16) ?_ (State.sameRecords_of_boards ?_) <;> (split <;> simp)
  case disposeRelease | disposeScrap => exact judged fun _ => State.disposeOf_boardsChange _ _
  case disposeRecoat =>
    refine judged fun hpass => ?_
    exact State.recoat_boardsChange (allPass_valid hpass)
  case reclaimMap =>
    refine judged fun _ => ?_
    split
    · exact .refl s
    next f _ =>
      have hfree := s.sameRecords_refl.modifyRecord c.boardTag (f := fun b => { b with mapFrame := none })
        (BoardRecord.same_of_eq rfl rfl rfl rfl rfl)
      exact .kept (by simp) (hfree.of_boards (by simp))
  case declareClear =>
    refine judged fun _ => ?_
    dsimp only
    exact State.clearLine_boardsChange
  case resumeCell =>
    refine judged fun _ => ?_
    dsimp only
    exact .of_sameRecords (by simp) (s.sameRecords_refl.pathEnd _ _)

/-! ### Registers and resets -/

theorem State.writeRegister_boardsChange (position : BitVec 3) (data : Word) :
    s.BoardsChange (s.writeRegister position data) := by
  have requested (m : LineMode) : s.BoardsChange (s.requestMode m) :=
    .of_sameRecords (by simp) (s.sameRecords_refl.requestMode m)
  unfold State.writeRegister
  split
  · unfold State.writeLineCtl
    split
    · exact requested _
    · exact requested _
    · exact requested _
    · exact .kept rfl s.sameRecords_refl
  all_goals exact .kept rfl s.sameRecords_refl

theorem State.record_convert (s : State) (n : Tag) : s.convert.record n = (s.record n).restart := by
  simp [State.record, State.convert, Tracker.reset]

theorem State.beginRestart_boardsChange (kind : ResetKind) : s.BoardsChange (s.beginRestart kind) := by
  have hrestart (u : State) : u.sameRecords u.convert := fun n => by
    rw [State.record_convert]
    exact BoardRecord.same_restart _
  refine .restarted (by simp [State.beginRestart, State.convert, Tracker.reset]) ?_
  cases kind with
  | supplyDip => exact .inl ((hrestart s).append _)
  | pin => exact .inl ((hrestart s).append _)
  | powerOn =>
    refine .inr fun n => ?_
    have hblank : (s.zeroExchange.convert.record n).valid = false := by
      rw [State.record_convert, (BoardRecord.same_restart _).valid]
      simp [State.record, State.zeroExchange, BoardRecord.blank]
    simpa [State.beginRestart, State.record] using hblank

theorem State.resetBy_boardsChange (cause : ResetKind) (extent : ResetExtent) :
    s.BoardsChange (s.resetBy cause extent) := by
  cases extent with
  | held => exact .kept rfl s.sameRecords_refl
  | restart visits =>
    have hbegun := State.BoardsChange.after (s := s) (u := s.noteCause cause)
      (State.beginRestart_boardsChange (s.resetKind cause)) rfl rfl
    exact hbegun.before (by simp [State.resetBy]) (by simp [State.resetBy])

/-! ### The law of the serials -/

/-- No two boards of the line carry one serial: no two admission entries, no two valid records, and no entry that of a
valid record. -/
theorem State.serialLaw_iff : s.serialLaw ↔
    (s.tracker.admissions.map (·.serial)).Nodup ∧
      (∀ m n, (s.record m).valid = true → (s.record n).valid = true → (s.record m).serial = (s.record n).serial →
        m = n) ∧
      ∀ a ∈ s.tracker.admissions, ∀ n, (s.record n).valid = true → a.serial ≠ (s.record n).serial := by
  have hmem (n : Tag) : n ∈ s.validTags ↔ (s.record n).valid = true := by simp [State.validTags, allTags]
  have htags : s.validTags.Nodup := (List.nodup_finRange 32).filter _
  rw [State.serialLaw, State.serials, List.nodup_append, List.nodup_map_iff_inj_on htags]
  refine and_congr_right fun _ => and_congr ?_ ?_
  · simp only [hmem]
    exact ⟨fun h m n hm hn => h m hm n hn, fun h m hm n hn => h m n hm hn⟩
  · simp only [List.mem_map, hmem]
    refine ⟨fun h a ha n hn => h _ ⟨a, ha, rfl⟩ _ ⟨n, hn, rfl⟩, ?_⟩
    rintro h _ ⟨a, ha, rfl⟩ _ ⟨n, hn, rfl⟩
    exact h a ha n hn

/-- Fewer entries, and records with the same serials of which fewer are valid, keep the law. -/
theorem State.serialLaw_of_sublist {t : State} (h : s.serialLaw)
    (hadmissions : t.tracker.admissions.Sublist s.tracker.admissions)
    (hrecords : ∀ n, (t.record n).valid = true → (s.record n).valid = true ∧ (t.record n).serial =
        (s.record n).serial) :
    t.serialLaw := by
  obtain ⟨hentries, hvalid, happart⟩ := State.serialLaw_iff.mp h
  refine State.serialLaw_iff.mpr ⟨hentries.sublist (hadmissions.map _), fun m n hm hn heq => ?_, fun a ha n hn => ?_⟩
  · obtain ⟨hms, hm'⟩ := hrecords m hm
    obtain ⟨hns, hn'⟩ := hrecords n hn
    exact hvalid m n hms hns (by rw [← hm', ← hn', heq])
  · obtain ⟨hns, hn'⟩ := hrecords n hn
    rw [hn']
    exact happart a (hadmissions.subset ha) n hns

/-- The entry that an arrival matches is the only one of its serial. -/
theorem removeAdmission_serial {l : List Admission} (h : (l.map (·.serial)).Nodup) {serial : Serial} {b : Admission}
    (hb : b ∈ removeAdmission serial l) : b.serial ≠ serial := by
  induction l with
  | nil => simp [removeAdmission] at hb
  | cons a l ih =>
    obtain ⟨ha, hl⟩ := List.nodup_cons.mp h
    by_cases hserial : a.serial = serial
    · have hb' : b ∈ l := by simpa [removeAdmission, hserial] using hb
      rintro rfl
      exact ha (List.mem_map.mpr ⟨b, hb', hserial.symm⟩)
    · have hb' : b = a ∨ b ∈ removeAdmission serial l := by
        simpa [removeAdmission, hserial] using hb
      exact hb'.elim (fun heq => heq ▸ hserial) (ih hl)

theorem removeAdmission_sublist (serial : Serial) (l : List Admission) : (removeAdmission serial l).Sublist l :=
  List.eraseP_sublist ..

/-- A record of the same identity, seen from the state before. -/
theorem State.sameRecords.valid_serial {t : State} (h : s.sameRecords t) (n : Tag) (hn : (t.record n).valid = true) :
    (s.record n).valid = true ∧ (t.record n).serial = (s.record n).serial :=
  ⟨(h n).valid ▸ hn, (h n).serial⟩

/-- A record freed is valid no more, and the others are as they were. -/
theorem State.released_valid_serial {t : State} {m : Tag}
    (h : (s.modifyRecord m BoardRecord.release).sameRecords t) (n : Tag) (hn : (t.record n).valid = true) :
    n ≠ m ∧ (s.record n).valid = true ∧ (t.record n).serial = (s.record n).serial := by
  obtain ⟨hvalid, hserial⟩ := h.valid_serial n hn
  rw [State.record_modifyRecord] at hvalid hserial
  by_cases heq : n = m
  · simp [heq, BoardRecord.release] at hvalid
  · rw [if_neg heq] at hvalid hserial
    exact ⟨heq, hvalid, hserial⟩

theorem State.record_setRecord (s : State) (m n : Tag) (r : BoardRecord) :
    (s.setRecord m r).record n = if n = m then r else s.record n :=
  State.record_modifyRecord s m n fun _ => r

/-- An entry of a fresh serial may join. -/
theorem State.serialLaw_concat {t : State} {a : Admission} (h : s.serialLaw)
    (hadmissions : t.tracker.admissions = s.tracker.admissions ++ [a])
    (hrecords : ∀ n, (t.record n).valid = true → (s.record n).valid = true ∧ (t.record n).serial = (s.record n).serial)
    (hentry : ∀ b ∈ s.tracker.admissions, b.serial ≠ a.serial)
    (hboard : ∀ n, (t.record n).valid = true → a.serial ≠ (t.record n).serial) : t.serialLaw := by
  obtain ⟨hentries, hvalid, happart⟩ := State.serialLaw_iff.mp h
  refine State.serialLaw_iff.mpr ⟨?_, fun m n hm hn heq => ?_, fun b hb n hn => ?_⟩
  · rw [hadmissions, List.map_append, List.nodup_append]
    refine ⟨hentries, by simp, ?_⟩
    simpa using hentry
  · obtain ⟨hms, hm'⟩ := hrecords m hm
    obtain ⟨hns, hn'⟩ := hrecords n hn
    exact hvalid m n hms hns (by rw [← hm', ← hn', heq])
  · rw [hadmissions, List.mem_append, List.mem_singleton] at hb
    obtain hb | rfl := hb
    · obtain ⟨hns, hn'⟩ := hrecords n hn
      rw [hn']
      exact happart b hb n hns
    · exact hboard n hn

/-- A serial that is not known is that of no entry and of no valid record. -/
theorem State.knownSerial_eq_false_iff {serial : Serial} : s.knownSerial serial = false ↔
    (∀ a ∈ s.tracker.admissions, a.serial ≠ serial) ∧
      ∀ n, (s.record n).valid = true → (s.record n).serial ≠ serial := by
  simp [State.knownSerial, allTags]

/-- A matched entry's serial moves to the record of its board, and stands nowhere else. -/
theorem State.serialLaw_matched {t : State} (h : s.serialLaw) {a : Admission} {m : Tag} {now : Time} {seed : Nat}
    (hlisted : a ∈ s.tracker.admissions)
    (hadmissions : t.tracker.admissions = removeAdmission a.serial s.tracker.admissions)
    (hrecords : (s.setRecord m (BoardRecord.create a now seed)).sameRecords t) : t.serialLaw := by
  obtain ⟨hentries, hvalid, happart⟩ := State.serialLaw_iff.mp h
  have hnew (n : Tag) (hn : (t.record n).valid = true) : (n = m ∧ (t.record n).serial = a.serial) ∨
      (n ≠ m ∧ (s.record n).valid = true ∧ (t.record n).serial = (s.record n).serial) := by
    obtain ⟨hwas, hserial⟩ := hrecords.valid_serial n hn
    rw [State.record_setRecord] at hwas hserial
    by_cases heq : n = m
    · rw [if_pos heq] at hserial
      exact .inl ⟨heq, hserial⟩
    · rw [if_neg heq] at hwas hserial
      exact .inr ⟨heq, hwas, hserial⟩
  refine State.serialLaw_iff.mpr ⟨?_, fun n k hn hk heq => ?_, fun b hb n hn => ?_⟩
  · rw [hadmissions]
    exact hentries.sublist ((removeAdmission_sublist _ _).map _)
  · obtain ⟨rfl, hn'⟩ | ⟨-, hwasn, hn'⟩ := hnew n hn <;> obtain ⟨rfl, hk'⟩ | ⟨-, hwask, hk'⟩ := hnew k hk
    · rfl
    · exact absurd (by rw [← hn', heq, hk']) (happart a hlisted k hwask)
    · exact absurd (by rw [← hk', ← heq, hn']) (happart a hlisted n hwasn)
    · exact hvalid n k hwasn hwask (by rw [← hn', heq, hk'])
  · rw [hadmissions] at hb
    obtain ⟨-, hn'⟩ | ⟨-, hwas, hn'⟩ := hnew n hn
    · rw [hn']
      exact removeAdmission_serial hentries hb
    · rw [hn']
      exact happart b ((removeAdmission_sublist _ _).subset hb) n hwas

/-- An event keeps the law of the serials. -/
theorem State.BoardsChange.serialLaw {t : State} (hchange : s.BoardsChange t) (h : s.serialLaw) : t.serialLaw := by
  obtain ⟨hentries, hvalid, happart⟩ := State.serialLaw_iff.mp h
  cases hchange with
  | kept admissions records =>
    exact State.serialLaw_of_sublist h (by rw [admissions]) records.valid_serial
  | admitted a fresh admissions records =>
    obtain ⟨hentry, hboard⟩ := State.knownSerial_eq_false_iff.mp fresh
    refine State.serialLaw_concat h admissions records.valid_serial hentry fun n hn => ?_
    obtain ⟨hwas, hserial⟩ := records.valid_serial n hn
    exact fun heq => hboard n hwas (by rw [← hserial, heq])
  | withdrawn serial admissions records =>
    exact State.serialLaw_of_sublist h (admissions ▸ removeAdmission_sublist _ _) records.valid_serial
  | matched a m now seed listed _ admissions records => exact State.serialLaw_matched h listed admissions records
  | released m admissions records =>
    exact State.serialLaw_of_sublist h (by rw [admissions]) fun n hn => (State.released_valid_serial records n hn).2
  | recoated m a held serial admissions records =>
    refine State.serialLaw_concat h admissions (fun n hn => (State.released_valid_serial records n hn).2)
      (fun b hb => serial ▸ happart b hb m held) fun n hn heq => ?_
    obtain ⟨hne, hwas, hsame⟩ := State.released_valid_serial records n hn
    exact hne (hvalid n m hwas held (by rw [← hsame, ← heq, serial]))
  | restarted admissions records =>
    refine State.serialLaw_of_sublist h (by simp [admissions]) fun n hn => ?_
    obtain hsame | hnone := records
    · exact hsame.valid_serial n hn
    · simp [hnone n] at hn

theorem State.serialLaw_of_tracker {t : State} (h : s.serialLaw) (htracker : t.tracker = s.tracker) : t.serialLaw := by
  simpa only [State.serialLaw, State.serials, State.validTags, State.record, htracker] using h

theorem eventsKeep_serialLaw : EventsKeep State.serialLaw where
  queue _ h := State.serialLaw_of_tracker h rfl
  visit v h := State.serialLaw_of_tracker h (by simp)
  run h := State.serialLaw_of_tracker h rfl
  hostWrite _ _ h := State.serialLaw_of_tracker h (by simp)
  writeRegister position data h := (State.writeRegister_boardsChange position data).serialLaw h
  clearScan h := State.serialLaw_of_tracker h rfl
  walk _ _ h := State.serialLaw_of_tracker h (by simp)
  card hi _ c h := (Instr.cardEffect_boardsChange hi c).serialLaw h
  completeCard c rest r h := State.serialLaw_of_tracker h (by simp)
  message hm h := hm.boardsChange.serialLaw h
  receiver _ _ h := State.serialLaw_of_tracker h rfl
  internal ha h := ha.boardsChange.serialLaw h
  reset cause extent h := (State.resetBy_boardsChange cause extent).serialLaw h

/-- Settles O59, by the induction over the parts of an event: an entry joins with a serial not known, or with that of
the record it is made of, and a record is made of the entry that leaves. -/
theorem stepsKeepSerialsUnique : Obligations.StepsKeepSerialsUnique :=
  fun _ _ hserials hstep => eventsKeep_serialLaw.step hserials hstep

end Sys2Proof.Machine
end

section
/-! PROOFS. Reception on the field ports: what received bytes do to a receiver and deliver (R181-R183), and that no
other event moves a receiver. -/

namespace Sys2Proof.Machine

/-! ### The receivers -/

/-- The framing states of the four receivers. -/
def Ports.receivers (p : Ports) (q : Port) : Receiver := (p.get q).receiver

@[simp] theorem Ports.receivers_set (p : Ports) (q : Port) (waiting : List Message) (line : List Bool) :
    (p.set q ⟨(p.get q).receiver, waiting, line⟩).receivers = p.receivers := by
  funext port
  simp only [Ports.receivers, Ports.get_set]
  split
  next h => rw [h]
  next => rfl

theorem State.receiver_eq (s : State) (p : Port) : s.receiver p = s.ports.receivers p := rfl

theorem PortState.issue_eq (p : PortState) (m : Message) :
    p.issue m = ⟨p.receiver, if p.waiting.length < 32 then p.waiting ++ [m] else p.waiting, p.line⟩ := by
  unfold PortState.issue
  split <;> simp_all

@[simp] theorem Ports.receivers_issue (p : Ports) (q : Port) (m : Message) :
    (p.set q ((p.get q).issue m)).receivers = p.receivers := by
  simp [PortState.issue_eq]

theorem PortState.transmit_receiver (p : PortState) :
    p.transmit = ⟨p.receiver, p.transmit.waiting, p.transmit.line⟩ := by
  unfold PortState.transmit
  split <;> rfl

@[simp] theorem Ports.receivers_transmit (p : Ports) (q : Port) :
    (p.set q (p.get q).transmit).receivers = p.receivers := by
  rw [PortState.transmit_receiver, Ports.receivers_set]

theorem State.setReceiver_receivers (s : State) (p : Port) (r : Receiver) :
    (s.setReceiver p r).ports.receivers = Function.update s.ports.receivers p r := by
  funext q
  simp only [State.setReceiver, Ports.receivers, Ports.get_set, Function.update_apply]
  split <;> rfl

/-! ### No operation moves a receiver -/

section

variable (s : State)

@[simp] theorem State.driveLoader_receivers : s.driveLoader.ports.receivers = s.ports.receivers := by
  unfold State.driveLoader
  split <;> simp

@[simp] theorem State.driveGate_receivers : s.driveGate.ports.receivers = s.ports.receivers := by
  unfold State.driveGate
  split <;> simp

@[simp] theorem State.sendSegment_receivers (t : Tag) : (s.sendSegment t).ports.receivers = s.ports.receivers := by
  unfold State.sendSegment
  split <;> simp

@[simp] theorem State.pathEnd_receivers (t : Tag) (e : PathEnd) :
    (s.pathEnd t e).ports.receivers = s.ports.receivers := by
  simp [State.pathEnd]

@[simp] theorem State.pressureCheck_receivers (t : Tag) (a : ApplicatorId) :
    (s.pressureCheck t a).ports.receivers = s.ports.receivers := by
  unfold State.pressureCheck
  split <;> simp

@[simp] theorem State.fetch_receivers (t : Tag) : (s.fetch t).ports.receivers = s.ports.receivers := by
  unfold State.fetch
  dsimp only
  (repeat' split) <;> simp

@[simp] theorem State.closeValve_receivers : s.closeValve.ports.receivers = s.ports.receivers := by
  unfold State.closeValve
  split <;> simp

@[simp] theorem State.abort_receivers (c : StopCause) (a : Option ApplicatorId) :
    (s.abort c a).ports.receivers = s.ports.receivers := by
  unfold State.abort
  dsimp only
  (repeat' split) <;> simp

@[simp] theorem State.abortActive_receivers (c : StopCause) :
    (s.abortActive c).ports.receivers = s.ports.receivers := by
  unfold State.abortActive
  split <;> simp

@[simp] theorem State.leavePaused_receivers : s.leavePaused.ports.receivers = s.ports.receivers := by
  unfold State.leavePaused
  (repeat' split) <;> simp

@[simp] theorem State.cellOnMode_receivers : s.cellOnMode.ports.receivers = s.ports.receivers := by
  unfold State.cellOnMode
  (repeat' split) <;> simp

@[simp] theorem State.handMode_receivers : s.handMode.ports.receivers = s.ports.receivers := by
  simp [State.handMode]

@[simp] theorem State.changeMode_receivers (m : LineMode) : (s.changeMode m).ports.receivers = s.ports.receivers := by
  simp [State.changeMode]

@[simp] theorem State.reportEmpty_receivers : s.reportEmpty.ports.receivers = s.ports.receivers := by
  unfold State.reportEmpty
  split <;> simp

@[simp] theorem State.raiseFault_receivers (c : FaultCode) (r : Option Route) (t : Option Tag) (n : Nat) :
    (s.raiseFault c r t n).ports.receivers = s.ports.receivers := by
  unfold State.raiseFault
  dsimp only
  (repeat' split) <;> simp

@[simp] theorem State.requestMode_receivers (m : LineMode) :
    (s.requestMode m).ports.receivers = s.ports.receivers := by
  unfold State.requestMode
  split <;> simp

@[simp] theorem State.sprayStart_receivers (t : Tag) : (s.sprayStart t).ports.receivers = s.ports.receivers := by
  unfold State.sprayStart
  dsimp only
  (repeat' split) <;> simp

@[simp] theorem State.startVerification_receivers (t : Tag) :
    (s.startVerification t).ports.receivers = s.ports.receivers := by
  unfold State.startVerification
  dsimp only
  (repeat' split) <;> simp

@[simp] theorem State.openValve_receivers (a : ApplicatorId) :
    (s.openValve a).ports.receivers = s.ports.receivers := by
  simp [State.openValve]

@[simp] theorem State.takeSegStarted_receivers (tag : Byte) (i : Half) :
    (s.takeSegStarted tag i).ports.receivers = s.ports.receivers := by
  unfold State.takeSegStarted
  dsimp only
  (repeat' split) <;> simp

@[simp] theorem State.finishWet_receivers (t : Tag) (g : Segment) (a : ApplicatorId) :
    (s.finishWet t g a).ports.receivers = s.ports.receivers := by
  simp [State.finishWet]

@[simp] theorem State.boundary_receivers (t : Tag) : (s.boundary t).ports.receivers = s.ports.receivers := by
  unfold State.boundary
  (repeat' split) <;> simp

@[simp] theorem State.takeSegDone_receivers (tag : Byte) (i : Half) :
    (s.takeSegDone tag i).ports.receivers = s.ports.receivers := by
  unfold State.takeSegDone
  dsimp only
  (repeat' split) <;> simp

@[simp] theorem State.takeMotionFault_receivers : s.takeMotionFault.ports.receivers = s.ports.receivers := by
  unfold State.takeMotionFault
  split <;> simp

@[simp] theorem State.enterBand_receivers (a : ApplicatorId) :
    (s.enterBand a).ports.receivers = s.ports.receivers := by
  unfold State.enterBand
  (repeat' split) <;> simp

@[simp] theorem State.leaveBand_receivers (a : ApplicatorId) :
    (s.leaveBand a).ports.receivers = s.ports.receivers := by
  unfold State.leaveBand
  split <;> simp

@[simp] theorem State.changeMonitor_receivers (a : ApplicatorId) (v : PressureState) (n : Nat) :
    (s.changeMonitor a v n).ports.receivers = s.ports.receivers := by
  unfold State.changeMonitor
  dsimp only
  (repeat' split) <;> simp

@[simp] theorem State.takePressure_receivers (a : Byte) (p : Half) :
    (s.takePressure a p).ports.receivers = s.ports.receivers := by
  unfold State.takePressure
  dsimp only
  (repeat' split) <;> simp

@[simp] theorem State.takeGuard_receivers (g : GuardState) : (s.takeGuard g).ports.receivers = s.ports.receivers := by
  unfold State.takeGuard
  cases g <;> dsimp only <;> split <;> simp

@[simp] theorem State.matchArrival_receivers (t : Tag) (a : Admission) :
    (s.matchArrival t a).ports.receivers = s.ports.receivers := by
  simp [State.matchArrival]

@[simp] theorem State.takeArrival_receivers (n : Option Serial) :
    (s.takeArrival n).ports.receivers = s.ports.receivers := by
  unfold State.takeArrival
  dsimp only
  (repeat' split) <;> simp

@[simp] theorem State.beginTransfer_receivers (r : Route) (n : Nat) :
    (s.beginTransfer r n).ports.receivers = s.ports.receivers := by
  simp [State.beginTransfer]

@[simp] theorem State.startRoute_receivers (r : Route) (t : Tag) :
    (s.startRoute r t).ports.receivers = s.ports.receivers := by
  unfold State.startRoute
  dsimp only
  (repeat' split) <;> simp

@[simp] theorem State.completeRoute_receivers (r : Route) (t : Tag) (n : Nat) :
    (s.completeRoute r t n).ports.receivers = s.ports.receivers := by
  cases r <;> simp [State.completeRoute, State.doneMaskToInfeed, State.doneMaskToLane, State.doneInfeedToCell,
    State.doneCellToFlash, State.doneCoolToExit, State.doneCoolToSpur]

@[simp] theorem State.takeTransferDone_receivers (r : Route) :
    (s.takeTransferDone r).ports.receivers = s.ports.receivers := by
  unfold State.takeTransferDone
  (repeat' split) <;> simp

@[simp] theorem State.failTransfer_receivers (r : Route) (n : Nat) :
    (s.failTransfer r n).ports.receivers = s.ports.receivers := by
  simp [State.failTransfer]

@[simp] theorem State.takeTransferFault_receivers (r : Route) :
    (s.takeTransferFault r).ports.receivers = s.ports.receivers := by
  unfold State.takeTransferFault
  split <;> simp

@[simp] theorem State.enterOven_receivers (t : Tag) : (s.enterOven t).ports.receivers = s.ports.receivers := by
  simp [State.enterOven]

@[simp] theorem State.takeEntrySeen_receivers : s.takeEntrySeen.ports.receivers = s.ports.receivers := by
  unfold State.takeEntrySeen
  split <;> simp

@[simp] theorem State.exitToCool_receivers (t : Tag) : (s.exitToCool t).ports.receivers = s.ports.receivers := by
  unfold State.exitToCool
  dsimp only
  (repeat' split) <;> simp

@[simp] theorem State.takeOvenSample_receivers (v : Vector Half 6) (d : Half) :
    (s.takeOvenSample v d).ports.receivers = s.ports.receivers := by
  unfold State.takeOvenSample
  simp [foldRecords_keeps (fun s t => BoardRecord.sample s.oven (s.boardCoating t) s.cure.zones (min 4095 d.toNat)),
    foldReadings_keeps (fun z => readingOf v[z.val])]

@[simp] theorem State.assertStop_receivers : s.assertStop.ports.receivers = s.ports.receivers := by
  unfold State.assertStop
  simp only [State.driveGate_receivers, foldRecords_keeps (fun _ _ => BoardRecord.addReason .ovenStopped)]
  split <;> simp

@[simp] theorem State.exitOverrun_receivers (t : Tag) : (s.exitOverrun t).ports.receivers = s.ports.receivers := by
  simp [State.exitOverrun]

@[simp] theorem State.takeExitSeen_receivers : s.takeExitSeen.ports.receivers = s.ports.receivers := by
  unfold State.takeExitSeen
  dsimp only
  (repeat' split) <;> simp

end

/-! ### Bytes received -/

/-- The framing state after bytes, and the good frames they complete, in order. -/
def Receiver.takes (r : Receiver) : List Byte → Receiver × List Frame
  | [] => (r, [])
  | b :: bs => (((r.take b).1.takes bs).1, (r.take b).2.toList ++ ((r.take b).1.takes bs).2)

@[simp] theorem Receiver.takes_nil (r : Receiver) : r.takes [] = (r, []) := rfl

theorem Receiver.takes_cons (r : Receiver) (b : Byte) (bs : List Byte) :
    r.takes (b :: bs) = (((r.take b).1.takes bs).1, (r.take b).2.toList ++ ((r.take b).1.takes bs).2) := rfl

theorem Receiver.takes_append (r : Receiver) (bs cs : List Byte) :
    r.takes (bs ++ cs) = (((r.takes bs).1.takes cs).1, (r.takes bs).2 ++ ((r.takes bs).1.takes cs).2) := by
  induction bs generalizing r with
  | nil => rfl
  | cons b bs ih => simp [Receiver.takes_cons, ih]

/-- The model's quiet reception is that of the frames completed. -/
theorem receiveQuietly_eq (p : Port) (r : Receiver) (bytes : List Byte) :
    receiveQuietly p r bytes = ((r.takes bytes).1, (r.takes bytes).2.all fun f => !delivers p f) := by
  induction bytes generalizing r with
  | nil => rfl
  | cons b bs ih =>
    simp only [receiveQuietly, ih, Receiver.takes_cons, Prod.mk.injEq, true_and, List.all_append]
    cases (r.take b).2 <;> simp [Bool.and_comm]

@[simp] theorem Receiver.takes_discarding (bytes : List Byte) :
    Receiver.discarding.takes bytes = (.discarding, []) := by
  induction bytes with
  | nil => rfl
  | cons b bs ih => simp [Receiver.takes_cons, Receiver.take, ih]

/-- A receiver that holds no more than 32 bytes of payload (R181). -/
def Receiver.bounded : Receiver → Prop
  | .payload _ length got => got.length < length.toNat ∧ length.toNat ≤ 32
  | .awaitCheck _ _ got => got.length ≤ 32
  | _ => True

theorem Receiver.take_bounded {r : Receiver} (hr : r.bounded) (b : Byte) :
    (r.take b).1.bounded ∧ ∀ f ∈ (r.take b).2, f.payload.length ≤ 32 := by
  cases r with
  | awaitKind | discarding => simp [Receiver.take, Receiver.bounded]
  | awaitLength kind =>
    simp only [Receiver.take]
    split
    · simp [Receiver.bounded]
    · split
      · simp only [Receiver.bounded, List.length_nil]; simp; omega
      · simp [Receiver.bounded]
  | payload kind length got =>
    obtain ⟨hgot, hlength⟩ := hr
    simp only [Receiver.take]
    split <;> (simp [Receiver.bounded]; omega)
  | awaitCheck kind length got =>
    refine ⟨trivial, fun f hf => ?_⟩
    simp only [Receiver.take, Option.mem_def] at hf
    split at hf
    · cases hf; exact hr
    · cases hf

theorem Receiver.takes_bounded {r : Receiver} (hr : r.bounded) (bytes : List Byte) :
    ∀ f ∈ (r.takes bytes).2, f.payload.length ≤ 32 := by
  induction bytes generalizing r with
  | nil => simp
  | cons b bs ih =>
    obtain ⟨hnext, hframe⟩ := Receiver.take_bounded hr b
    intro f hf
    simp only [Receiver.takes_cons, List.mem_append, Option.mem_toList] at hf
    exact hf.elim (hframe f) (ih hnext f)

/-! ### A good frame -/

/-- The payload's bytes, each short of the last. -/
theorem Receiver.takes_payload (kind length : Byte) (got bytes : List Byte)
    (h : got.length + bytes.length = length.toNat) (hbytes : bytes ≠ []) :
    (Receiver.payload kind length got).takes bytes = (.awaitCheck kind length (got ++ bytes), []) := by
  induction bytes generalizing got with
  | nil => exact absurd rfl hbytes
  | cons b bs ih =>
    rw [List.length_cons] at h
    rw [Receiver.takes_cons, Receiver.take]
    by_cases hlast : bs = []
    · subst hlast
      rw [if_neg (by simp at h; omega)]
      simp
    · have hmore := List.length_pos_of_ne_nil hlast
      rw [if_pos (by omega), ih (got ++ [b]) (by simp; omega) hlast]
      simp

/-- The bytes of a frame before its check byte. -/
def Frame.body (f : Frame) : List Byte := f.kind :: byte f.payload.length :: f.payload

theorem Frame.bytes_eq (f : Frame) : f.bytes = f.body ++ [crc f.body] := rfl

theorem Receiver.takes_body {f : Frame} (hf : f.payload.length ≤ 32) :
    Receiver.awaitKind.takes f.body = (.awaitCheck f.kind (byte f.payload.length) f.payload, []) := by
  have hlength : (byte f.payload.length).toNat = f.payload.length := by simp [byte]; omega
  simp only [Frame.body, Receiver.takes_cons, Receiver.take, Option.toList_none, List.nil_append]
  by_cases hempty : f.payload = []
  · rw [if_pos (by rw [hlength, hempty]; rfl)]
    simp [hempty]
  · have hpos := List.length_pos_of_ne_nil hempty
    rw [if_neg (by omega), if_pos (by omega)]
    dsimp only
    rw [Receiver.takes_payload f.kind _ [] f.payload (by simp [hlength]) hempty]
    simp

/-- The bytes of a good frame complete that frame (R181, R182). -/
theorem Receiver.takes_bytes {f : Frame} (hf : f.payload.length ≤ 32) :
    Receiver.awaitKind.takes f.bytes = (.awaitKind, [f]) := by
  rw [Frame.bytes_eq, Receiver.takes_append, Receiver.takes_body hf]
  simp [Receiver.takes_cons, Receiver.take, Frame.body]

/-- A wrong check byte completes no frame (R182). -/
theorem Receiver.takes_wrong {f : Frame} (hf : f.payload.length ≤ 32) {wrong : Byte} (h : wrong ≠ crc f.body) :
    Receiver.awaitKind.takes (f.body ++ [wrong]) = (.awaitKind, []) := by
  rw [Receiver.takes_append, Receiver.takes_body hf]
  simp only [Receiver.takes_cons, Receiver.take, Receiver.takes_nil]
  rw [if_neg (fun heq => h heq.symm)]
  rfl

/-- A frame begun and not ended completes no frame (R181). -/
theorem Receiver.takes_start {f : Frame} (hf : f.payload.length ≤ 32) {start rest : List Byte}
    (h : f.body = start ++ rest) : (Receiver.awaitKind.takes start).2 = [] := by
  have hbody := congrArg Prod.snd (Receiver.takes_body hf)
  rw [h, Receiver.takes_append] at hbody
  exact (List.append_eq_nil_iff.mp hbody).1

/-- A length above 32 makes the receiver discard (R181). -/
theorem Receiver.takes_long (kind length : Byte) (rest : List Byte) (h : 32 < length.toNat) :
    Receiver.awaitKind.takes (kind :: length :: rest) = (.discarding, []) := by
  simp only [Receiver.takes_cons, Receiver.take, Option.toList_none, List.nil_append]
  rw [if_neg (by omega), if_neg (by omega)]
  simp

/-! ### What the part does with received bytes -/

@[simp] theorem State.receiver_setReceiver (s : State) (p : Port) (r : Receiver) :
    (s.setReceiver p r).receiver p = r := by
  simp [State.receiver, State.setReceiver]

theorem Ports.set_set (k : Ports) (p : Port) (v w : PortState) : (k.set p v).set p w = k.set p w := by
  cases p <;> rfl

theorem Ports.set_get (k : Ports) (p : Port) : k.set p (k.get p) = k := by
  cases p <;> rfl

@[simp] theorem State.setReceiver_setReceiver (s : State) (p : Port) (r q : Receiver) :
    (s.setReceiver p r).setReceiver p q = s.setReceiver p q := by
  simp [State.setReceiver, Ports.set_set]

theorem State.setReceiver_self {s : State} {p : Port} {r : Receiver} (h : s.receiver p = r) :
    s.setReceiver p r = s := by
  subst h
  exact congrArg (fun k => ({ s with ports := k } : State)) (Ports.set_get s.ports p)

/-- One byte: the receiver takes it, and the frame that it completes is delivered. -/
theorem State.receiveByte_eq (s : State) (p : Port) (b : Byte) :
    s.receiveByte p b = (((s.receiver p).take b).2.toList.foldl (fun u f => u.deliver p f)
      (s.setReceiver p ((s.receiver p).take b).1)) := by
  unfold State.receiveByte State.receiveLevels
  rw [Receiver.takeLevels_byteLevels]
  dsimp only
  cases ((s.receiver p).take b).2 <;> rfl

/-- Bytes whose frames deliver nothing change the framing state alone. -/
theorem State.receiveBytes_undelivered {s : State} {p : Port} {bytes : List Byte}
    (h : ∀ f ∈ ((s.receiver p).takes bytes).2, ∀ u : State, u.deliver p f = u) :
    s.receiveBytes p bytes = s.setReceiver p ((s.receiver p).takes bytes).1 := by
  induction bytes generalizing s with
  | nil => exact (State.setReceiver_self rfl).symm
  | cons b bs ih =>
    have hbyte : s.receiveByte p b = s.setReceiver p ((s.receiver p).take b).1 := by
      rw [State.receiveByte_eq]
      cases hframe : ((s.receiver p).take b).2 with
      | none => rfl
      | some f => exact h f (by simp [Receiver.takes_cons, hframe]) _
    have hrest := ih (s := s.setReceiver p ((s.receiver p).take b).1) fun f hf u => h f
      (by rw [State.receiver_setReceiver] at hf; simp [Receiver.takes_cons, hf]) u
    calc s.receiveBytes p (b :: bs) = (s.receiveByte p b).receiveBytes p bs := rfl
      _ = _ := by rw [hbyte, hrest]; simp [Receiver.takes_cons]

/-- A receiver that discards takes no byte. -/
theorem State.receiveBytes_discarding {s : State} {p : Port} (h : s.receiver p = .discarding) (bytes : List Byte) :
    s.receiveBytes p bytes = s := by
  rw [State.receiveBytes_undelivered (by simp [h]), h, Receiver.takes_discarding]
  exact State.setReceiver_self h

theorem oneOrTwo_eq_false_iff {b : Byte} : oneOrTwo b = false ↔ b.toNat ≠ 1 ∧ b.toNat ≠ 2 := by
  simp [oneOrTwo]

theorem oneOrTwo_eq_false {b : Byte} (h1 : b ≠ 1) (h2 : b ≠ 2) : oneOrTwo b = false :=
  oneOrTwo_eq_false_iff.mpr ⟨fun h => h1 (BitVec.eq_of_toNat_eq h), fun h => h2 (BitVec.eq_of_toNat_eq h)⟩

theorem State.judgeArrival_undefined {status : Byte} (h : oneOrTwo status = false) (serial : Serial) (s : State) :
    s.judgeArrival status serial = s := by
  have hcode := oneOrTwo_eq_false_iff.mp h
  simp [State.judgeArrival, hcode]

theorem State.judgeMaskResult_undefined {value : Byte} (h : oneOrTwo value = false) (index : Byte) (s : State) :
    s.judgeMaskResult index value = s := by
  have hcode := oneOrTwo_eq_false_iff.mp h
  simp [State.judgeMaskResult, maskValueOf, hcode]

theorem State.judgeSlotState_undefined {report : Byte} (h : oneOrTwo report = false) (slot : Byte) (s : State) :
    s.judgeSlotState slot report = s := by
  have hcode := oneOrTwo_eq_false_iff.mp h
  simp [State.judgeSlotState, slotReportOf, hcode]

theorem State.judgeGuard_undefined {state : Byte} (h : oneOrTwo state = false) (s : State) :
    s.judgeGuard state = s := by
  have hcode := oneOrTwo_eq_false_iff.mp h
  simp [State.judgeGuard, guardOf, hcode]

/-- A message with a code that section 11.3 does not define changes nothing (R183). -/
theorem State.takeMessage_undefined {c : Instr} (hcodes : c.codesDefined = false)
    (hlength : ∀ d, c = .motionFault d → d.length ≤ 32) (s : State) : s.takeMessage c = s := by
  unfold Instr.codesDefined at hcodes
  split at hcodes
  · exact State.judgeArrival_undefined hcodes _ s
  · exact State.judgeMaskResult_undefined hcodes _ s
  · exact State.judgeSlotState_undefined hcodes _ s
  · exact State.judgeGuard_undefined hcodes s
  next d => exact absurd (hlength d rfl) (of_decide_eq_false hcodes)
  · cases hcodes

theorem Frame.command_motionFault {f : Frame} {p : Port} {d : List Byte} (h : f.command p = some (.motionFault d)) :
    d = f.payload := by
  unfold Frame.command at h
  split at h
  · cases h
  · split at h
    · dsimp only at h
      split at h <;> cases h
      rfl
    · cases h

/-- A frame that the port does not deliver changes nothing (R183). -/
theorem State.deliver_undelivered {p : Port} {f : Frame} (hlength : f.payload.length ≤ 32)
    (h : delivers p f = false) (s : State) : s.deliver p f = s := by
  unfold State.deliver
  unfold delivers at h
  split
  · rfl
  next c hc =>
    rw [hc] at h
    exact State.takeMessage_undefined h (fun d hd => Frame.command_motionFault (hd ▸ hc) ▸ hlength) s

/-- Quiet bytes received between frames change the framing state alone. -/
theorem State.receiveBytes_quiet {s : State} {p : Port} {bytes : List Byte} (h : s.receiver p = .awaitKind)
    (hquiet : quietBytes p bytes = true) :
    s.receiveBytes p bytes = s.setReceiver p (receiveQuietly p .awaitKind bytes).1 := by
  rw [quietBytes, receiveQuietly_eq] at hquiet
  rw [receiveQuietly_eq, State.receiveBytes_undelivered, h]
  rw [h]
  intro f hf u
  refine State.deliver_undelivered (Receiver.takes_bounded (r := .awaitKind) trivial bytes f hf) ?_ u
  simpa using List.all_eq_true.mp hquiet f hf


theorem State.receiveBytes_append (s : State) (p : Port) (bs cs : List Byte) :
    s.receiveBytes p (bs ++ cs) = (s.receiveBytes p bs).receiveBytes p cs := List.foldl_append

/-- The bytes of a good frame, received between frames, deliver it (R181). -/
theorem State.receiveBytes_frame {s : State} {p : Port} {f : Frame} (h : s.receiver p = .awaitKind)
    (hf : f.payload.length ≤ 32) : s.receiveBytes p f.bytes = s.deliver p f := by
  have hbody : s.receiveBytes p f.body =
      s.setReceiver p (.awaitCheck f.kind (byte f.payload.length) f.payload) := by
    rw [State.receiveBytes_undelivered] <;> simp [h, Receiver.takes_body hf]
  have hcheck : (Receiver.awaitCheck f.kind (byte f.payload.length) f.payload).take (crc f.body) =
      (.awaitKind, some f) := by
    simp [Receiver.take, Frame.body]
  calc s.receiveBytes p f.bytes
      = (s.receiveBytes p f.body).receiveByte p (crc f.body) := by
        rw [Frame.bytes_eq, State.receiveBytes_append]; rfl
    _ = (s.setReceiver p .awaitKind).deliver p f := by
        rw [hbody, State.receiveByte_eq, State.receiver_setReceiver, hcheck, State.setReceiver_setReceiver]; rfl
    _ = s.deliver p f := by rw [State.setReceiver_self h]

/-! ### The commands that receive -/

variable {s : State} {p : Port}

theorem State.receiveFrame_idle (h : s.idlePort p) (f : Frame) (take : State → State) :
    s.receiveFrame p f take = take s := by
  obtain ⟨hrun, hkind⟩ := h
  simp [State.receiveFrame, hrun, hkind]

/-- The command of a frame takes its message, between two frames (R181). -/
theorem exec_command {f : Frame} (h : s.idlePort p) (hf : f.payload.length ≤ 32) {c : Instr}
    (hc : f.command p = some c) : exec c s = .next (s.takeMessage c) := by
  have taken (g : Frame) (take : State → State) :
      (Host.Outcome.next (s.receiveFrame p g take) : Host.Outcome State Fault Refusal) = .next (take s) := by
    rw [State.receiveFrame_idle h]
  unfold Frame.command at hc
  split at hc
  · cases hc
  next length hlength =>
    unfold portReceives at hlength
    split at hlength <;> cases hlength <;> simp only [*, Option.all_some, Option.all_none, if_true] at hc
    case h_3.refl =>
      cases hc
      exact (congrArg Host.Outcome.next (if_pos hf)).trans (taken _ _)
    all_goals
      obtain ⟨-, hc⟩ := Option.ite_none_right_eq_some.mp hc
      cases hc
      exact taken _ _

theorem exec_frameDiscarded (h : s.running) (bytes : List Byte) :
    exec (.frameDiscarded p bytes) s = .next (s.receiveBytes p bytes) :=
  congrArg Host.Outcome.next (State.live_running h _)

theorem exec_frameAbandoned (h : s.running) (bytes : List Byte) :
    exec (.frameAbandoned p bytes) s = .next ((s.receiveBytes p bytes).setReceiver p .awaitKind) :=
  congrArg Host.Outcome.next (State.live_running h _)

theorem State.receiveLevels_unstopped (s : State) (p : Port) :
    s.receiveLevels p Machine.unstopped = s.setReceiver p .discarding := by
  simp [State.receiveLevels]

theorem exec_missingStopBit (h : s.running) (bytes : List Byte) :
    exec (.missingStopBit p bytes) s = .next ((s.receiveBytes p bytes).setReceiver p .discarding) := by
  rw [← State.receiveLevels_unstopped]
  exact congrArg Host.Outcome.next (State.live_running h _)

/-! ### What a good frame, and bytes that are none, do -/

theorem exec_arrival_undefined (h : s.idlePort .station) {status : Byte} (h1 : status ≠ 1) (h2 : status ≠ 2)
    (serial : Serial) : exec (.arrival status serial) s = .next s :=
  congrArg Host.Outcome.next
    ((State.receiveFrame_idle h _ _).trans (State.judgeArrival_undefined (oneOrTwo_eq_false h1 h2) _ s))

theorem exec_maskResult_undefined (h : s.idlePort .station) {value : Byte} (h1 : value ≠ 1) (h2 : value ≠ 2)
    (index : Byte) : exec (.maskResult index value) s = .next s :=
  congrArg Host.Outcome.next
    ((State.receiveFrame_idle h _ _).trans (State.judgeMaskResult_undefined (oneOrTwo_eq_false h1 h2) index s))

theorem exec_slotState_undefined (h : s.idlePort .station) {report : Byte} (h1 : report ≠ 1) (h2 : report ≠ 2)
    (slot : Byte) : exec (.slotState slot report) s = .next s :=
  congrArg Host.Outcome.next
    ((State.receiveFrame_idle h _ _).trans (State.judgeSlotState_undefined (oneOrTwo_eq_false h1 h2) slot s))

theorem exec_guard_undefined (h : s.idlePort .station) {state : Byte} (h1 : state ≠ 1) (h2 : state ≠ 2) :
    exec (.guard state) s = .next s :=
  congrArg Host.Outcome.next
    ((State.receiveFrame_idle h _ _).trans (State.judgeGuard_undefined (oneOrTwo_eq_false h1 h2) s))

/-- Settles O54: the bytes of a good frame complete it and no other, and a frame that the port does not deliver changes
nothing. -/
theorem goodFramesAreTheirMessages : Obligations.GoodFramesAreTheirMessages := by
  refine ⟨fun s p f hidle hf => ?_, fun s hidle => ⟨?_, ?_, ?_, ?_⟩, fun s p bytes hrun => ⟨?_, ?_, ?_, fun hkind =>
    ⟨?_, ?_, ?_⟩⟩⟩
  · obtain ⟨hrun, hkind⟩ := hidle
    have silent {bytes : List Byte} (h : (Receiver.awaitKind.takes bytes).2 = []) :
        s.receiveBytes p bytes = s.setReceiver p (Receiver.awaitKind.takes bytes).1 := by
      rw [State.receiveBytes_undelivered] <;> simp [hkind, h]
    have hself : s.setReceiver p .awaitKind = s := State.setReceiver_self hkind
    dsimp only
    refine ⟨fun c hc => ⟨?_, fun hcodes => ?_⟩, fun hnone => ?_, fun body b hbody => ⟨fun wrong hwrong => ?_,
      fun start rest hstart => ?_⟩, fun length rest hlength => ?_, fun bytes => ?_⟩
    · rw [exec_command ⟨hrun, hkind⟩ hf hc, State.receiveBytes_frame hkind hf, State.deliver, hc]
    · rw [exec_command ⟨hrun, hkind⟩ hf hc,
        State.takeMessage_undefined hcodes fun d hd => Frame.command_motionFault (hd ▸ hc) ▸ hf]
    · rw [exec_frameDiscarded hrun, State.receiveBytes_frame hkind hf, State.deliver, hnone]
    · obtain ⟨rfl, hcheck⟩ := List.append_inj' (f.bytes_eq.symm.trans hbody) rfl
      have hwrong' : wrong ≠ crc f.body := fun h => hwrong (h.trans (List.singleton_inj.mp hcheck))
      rw [exec_frameDiscarded hrun, silent (by rw [Receiver.takes_wrong hf hwrong']), Receiver.takes_wrong hf hwrong',
        hself]
    · obtain ⟨rfl, -⟩ := List.append_inj' (f.bytes_eq.symm.trans hbody) rfl
      rw [exec_frameAbandoned hrun, exec_missingStopBit hrun, silent (Receiver.takes_start hf hstart)]
      simp [hself]
    · rw [exec_frameDiscarded hrun, silent (by rw [Receiver.takes_long _ _ _ hlength]),
        Receiver.takes_long _ _ _ hlength]
    · have hrun' : (s.setReceiver p .discarding).running := hrun
      rw [exec_frameDiscarded hrun', exec_frameAbandoned hrun', State.receiveBytes_discarding (by simp)]
      simp [hself]
  · exact fun _ serial h1 h2 => exec_arrival_undefined hidle h1 h2 serial
  · exact fun index _ h1 h2 => exec_maskResult_undefined hidle h1 h2 index
  · exact fun slot _ h1 h2 => exec_slotState_undefined hidle h1 h2 slot
  · exact fun _ h1 h2 => exec_guard_undefined hidle h1 h2
  · exact exec_frameDiscarded hrun bytes
  · exact exec_frameAbandoned hrun bytes
  · exact exec_missingStopBit hrun bytes
  · intro hwell
    obtain ⟨hquiet, -⟩ := Bool.and_eq_true_iff.mp hwell
    exact ⟨_, by rw [exec_frameDiscarded hrun, State.receiveBytes_quiet hkind hquiet]⟩
  · intro hquiet
    rw [exec_frameAbandoned hrun, State.receiveBytes_quiet hkind hquiet]
    simp [State.setReceiver_self hkind]
  · intro hquiet
    rw [exec_missingStopBit hrun, State.receiveBytes_quiet hkind hquiet]
    simp

/-! ### Transmission (R180, R182, R184) -/

/-- With its check byte behind them, bytes have the check byte 0 (R182). -/
theorem crc_checked (bytes : List Byte) : crc (bytes ++ [crc bytes]) = 0 := by
  have hfold : crc (bytes ++ [crc bytes]) = crcByte (crc bytes) (crc bytes) := List.foldl_append
  rw [hfold, crcByte, BitVec.xor_self]
  rfl

theorem byteLevels_eq (b : Byte) : byteLevels b = [false, b.getLsbD 0, b.getLsbD 1, b.getLsbD 2, b.getLsbD 3,
    b.getLsbD 4, b.getLsbD 5, b.getLsbD 6, b.getLsbD 7, true] := rfl

theorem exec_frameTransmit (h : s.running) :
    exec (.frameTransmit p) s = .next { s with ports := s.ports.set p (s.ports.get p).transmit } :=
  congrArg Host.Outcome.next (State.live_running h _)

theorem Message.frame_length (m : Message) : m.frame.payload.length ≤ 16 := by
  cases m with
  | segRun tag index segment dryRun head => cases segment <;> simp [Message.frame, Segment.payload]
  | _ => simp [Message.frame]

/-- Settles O55: the line carries the front frame's bytes, whose check byte cancels in the CRC, and each message's
frame is read off its definition. -/
theorem transmittersSendCheckedFrames : Obligations.TransmittersSendCheckedFrames := by
  refine ⟨fun s m => ?_, fun s p hrun => ⟨fun hnone => ?_, fun m rest hfront => ?_⟩, Message.frame_length,
    fun n i dry head a => ⟨?_, ?_, ?_⟩, rfl, fun _ _ => ⟨rfl, rfl⟩, fun level => ⟨?_, ?_⟩, fun _ => rfl,
    fun r _ => ?_, rfl, rfl⟩
  · rw [State.send, PortState.issue_eq]
  · rw [exec_frameTransmit hrun]
    simp [PortState.transmit, hnone, Ports.set_get]
  · refine ⟨m.frame.bytes, ?_, ?_, crc_checked _⟩
    · rw [exec_frameTransmit hrun]
      simp only [PortState.transmit, hfront, lineLevels]
      exact congrArg Host.Outcome.next rfl
    · rw [Frame.bytes_eq, List.dropLast_concat]
      rfl
  · intro d column row length width trim speed
    cases dry <;> cases d <;> cases head <;> rfl
  · intro column row speed
    cases dry <;> rfl
  · intro column row width trim time
    cases dry <;> cases head <;> rfl
  · cases level <;> rfl
  · cases level <;> rfl
  · cases r <;> rfl

end Sys2Proof.Machine
end

section
/-! PROOFS. What a well-formed step keeps of the records and the receivers (R8, R12, R181), and what a step keeps of the
tables in use (R46). -/

namespace Sys2Proof.Machine

/-! ### Receivers through the parts of an event -/

theorem State.receiversSettled_of_receivers {s t : State} (h : s.receiversSettled)
    (hports : t.ports.receivers = s.ports.receivers) : t.receiversSettled := by
  intro p
  rw [State.receiver_eq, hports]
  exact h p

theorem State.receiversSettled_setReceiver {s : State} (h : s.receiversSettled) (p : Port) {r : Receiver}
    (hr : settled r = true) : (s.setReceiver p r).receiversSettled := by
  intro q
  rw [State.receiver_eq, State.setReceiver_receivers, Function.update_apply]
  split
  · exact hr
  · exact h q

theorem State.Delivers.receivers {s t : State} (h : s.Delivers t) : t.ports.receivers = s.ports.receivers := by
  cases h with
  | ignored => rfl
  | segStarted | segDone | motionFault | pressure | arrival | maskResult | transferDone | transferFault | slotState
  | guard | ovenSample | entrySeen | exitSeen => simp

theorem State.Acts.receivers {s t : State} (h : s.Acts t) : t.ports.receivers = s.ports.receivers := by
  cases h with
  | nothing | tick | flashOff => rfl
  | ovenSilent =>
    simp [foldRecords_keeps (fun _ _ => BoardRecord.addReason .cureUnverified)]
  | verification | transferStart | transferDeadline | segmentDeadline | pressureSilence | flashOffHead | openTime
  | recoatExpired | transmit => simp

@[simp] theorem State.clearOven_receivers (s : State) : s.clearOven.ports.receivers = s.ports.receivers := by
  unfold State.clearOven
  dsimp only
  split <;> simp

theorem foldClearBoard_ports (s : State) (l : List Tag) : (l.foldl State.clearBoard s).ports = s.ports :=
  foldl_keeps (·.ports) _ (fun _ _ => by simp [State.clearBoard]) s l

@[simp] theorem State.clearLine_receivers (s : State) : s.clearLine.ports.receivers = s.ports.receivers := by
  simp [State.clearLine, State.clearFrames, State.clearLists, foldClearBoard_ports]

@[simp] theorem State.disposeOf_receivers (s : State) (a : Action) (n : Tag) :
    (s.disposeOf a n).1.ports.receivers = s.ports.receivers := by
  simp [State.disposeOf]

@[simp] theorem State.recoat_receivers (s : State) (n : Tag) :
    (s.recoat n).1.ports.receivers = s.ports.receivers := by
  simp [State.recoat]

theorem Instr.cardEffect_receivers {i : Instr} {apply : TakenCard → State → State × CardResult}
    (hi : Instr.cardEffect i = some apply) (c : TakenCard) (s : State) :
    (apply c s).1.ports.receivers = s.ports.receivers := by
  have judged {checks : List Check} {effect : State → State × CardResult}
      (heffect : (effect s).1.ports.receivers = s.ports.receivers) :
      (judge checks effect s).1.ports.receivers = s.ports.receivers :=
    judge_induct (P := fun t => t.ports.receivers = s.ports.receivers) rfl fun _ => heffect
  cases i <;> cases hi
  case refusedKind => rfl
  case applicatorLoad | coatingLoad | patchClear | admitCard => exact judged rfl
  case recipeLoad | ovenLoad | disposeRelease | disposeScrap | disposeRecoat => exact judged (by simp)
  case pathLoad =>
    refine judged ?_
    unfold State.loadChunk
    dsimp only
    split <;> rfl
  case patchSet => refine judged ?_; split <;> rfl
  case withdrawCard =>
    refine judged ?_
    split
    · rfl
    · dsimp only
      split <;> simp
  case reclaimMap =>
    refine judged ?_
    split
    · rfl
    · simp
  case declareClear =>
    refine judged ?_
    dsimp only
    exact State.clearLine_receivers s
  case resumeCell =>
    refine judged ?_
    dsimp only
    simp

theorem State.writeRegister_receivers (s : State) (position : BitVec 3) (data : Word) :
    (s.writeRegister position data).ports.receivers = s.ports.receivers := by
  unfold State.writeRegister
  split
  · unfold State.writeLineCtl
    split
    · exact State.requestMode_receivers s _
    · exact State.requestMode_receivers s _
    · exact State.requestMode_receivers s _
    · rfl
  all_goals rfl

theorem State.resetBy_receiversSettled (s : State) (cause : ResetKind) (extent : ResetExtent) :
    (s.resetBy cause extent).receiversSettled := by
  cases extent with
  | held => intro p; cases p <;> rfl
  | restart visits =>
    refine State.receiversSettled_of_receivers (s := State.reset) (fun p => by cases p <;> rfl) ?_
    simp [State.resetBy, State.beginRestart, State.convert]
    rfl

/-! ### The records through a well-formed command -/

theorem State.BoardsChange.recordsKept {s t : State} (h : s.BoardsChange t) : s.recordsKept t := by
  have kept {u : State} (k : u.sameRecords t) (n : Tag) (hn : u.record n = s.record n) :
      (t.record n).serial = (s.record n).serial ∧ (t.record n).recipe = (s.record n).recipe ∧
        (t.record n).pass = (s.record n).pass ∧
        ∀ r : Reason, (s.record n).hasReason r = true → (t.record n).hasReason r = true := by
    obtain ⟨-, hserial, hrecipe, hpass, hreasons⟩ := hn ▸ k n
    exact ⟨hserial, hrecipe, hpass, hreasons⟩
  have released {m : Tag} (k : (s.modifyRecord m BoardRecord.release).sameRecords t) : s.recordsKept t := by
    intro n _ hafter
    obtain ⟨hne, -⟩ := State.released_valid_serial k n hafter
    exact kept k n (by rw [State.record_modifyRecord, if_neg hne])
  intro n hbefore hafter
  cases h with
  | kept _ k | admitted _ _ _ k | withdrawn _ _ k => exact kept k n rfl
  | matched a m now seed _ hfree _ k =>
    have hne : n ≠ m := fun heq => by simp [← heq, hbefore] at hfree
    exact kept k n (by rw [State.record_setRecord, if_neg hne])
  | released _ _ k => exact released k n hbefore hafter
  | recoated _ _ _ _ _ k => exact released k n hbefore hafter
  | restarted _ k =>
    refine k.elim (fun k => kept k n rfl) fun hnone => ?_
    simp [hnone n] at hafter

theorem State.receiver_of_settled {s : State} (h : s.receiversSettled) (p : Port) :
    s.receiver p = .awaitKind ∨ s.receiver p = .discarding := by
  have hp := h p
  cases hr : s.receiver p <;> simp_all [settled]

/-- A part that meets an event has its records and its receivers as they stood. -/
theorem State.Meets.keeps {s u : State} (h : s.Meets u) :
    u.tracker = s.tracker ∧ u.ports = s.ports ∧ u.tables = s.tables := by
  cases h with
  | running => exact ⟨rfl, rfl, rfl⟩
  | restarted => simp [State.finishRestart]

theorem State.scan_keeps (s : State) (visits : Nat) :
    (s.clearScan.walk 0 visits).tracker = s.tracker ∧ (s.clearScan.walk 0 visits).ports = s.ports ∧
      (s.clearScan.walk 0 visits).tables = s.tables := by
  obtain ⟨-, -, htables, htracker, -, -, -, -, -, -, hports, -⟩ := s.clearScan.walk_leaves 0 visits
  exact ⟨htracker, hports, htables⟩

/-- A quiet sequence of bytes, received by a settled receiver, changes at most that receiver. -/
theorem State.receiveBytes_settled {s : State} (h : s.receiversSettled) {p : Port} {bytes : List Byte}
    (hquiet : quietBytes p bytes = true) :
    ∃ r, s.receiveBytes p bytes = s.setReceiver p r ∧
      (settled (receiveQuietly p .awaitKind bytes).1 = true → settled r = true) := by
  obtain hkind | hdiscarding := State.receiver_of_settled h p
  · exact ⟨_, State.receiveBytes_quiet hkind hquiet, fun hr => hr⟩
  · exact ⟨.discarding, by rw [State.receiveBytes_discarding hdiscarding, State.setReceiver_self hdiscarding],
      fun _ => rfl⟩

/-- A well-formed command changes the boards once at most, and leaves the receivers settled. -/
theorem State.Takes.orderly {i : Instr} {u t : State} (h : u.Takes i t) (hwell : i.wellFormed = true)
    (hu : u.receiversSettled) : u.BoardsChange t ∧ t.receiversSettled := by
  have unmoved {v : State} (hports : v.ports.receivers = u.ports.receivers) : v.receiversSettled :=
    State.receiversSettled_of_receivers hu hports
  have unchanged (p : Port) (r : Receiver) : u.BoardsChange (u.setReceiver p r) := .kept rfl u.sameRecords_refl
  cases h with
  | nothing => exact ⟨.refl u, hu⟩
  | walk _ first visits => exact ⟨(State.BoardsChange.refl u).before (by simp) (by simp), unmoved (by simp)⟩
  | scan _ visits =>
    obtain ⟨htracker, hports, -⟩ := u.scan_keeps visits
    exact ⟨(State.BoardsChange.refl u).before (by rw [htracker]) (by rw [htracker]), unmoved (by rw [hports])⟩
  | card hi c rest =>
    exact ⟨(Instr.cardEffect_boardsChange hi c).before (by simp) (by simp),
      unmoved (by simpa using Instr.cardEffect_receivers hi c u)⟩
  | internal _ hacts => exact ⟨hacts.boardsChange, unmoved hacts.receivers⟩
  | message =>
    have hdelivers := u.delivers_takeMessage i
    exact ⟨hdelivers.boardsChange, unmoved hdelivers.receivers⟩
  | frame _ p bytes hframe =>
    rw [State.receiveBytes_discarding ((State.receiver_of_settled hu p).resolve_left hframe)]
    exact ⟨.refl u, hu⟩
  | frameDiscarded p bytes =>
    obtain ⟨hquiet, hend⟩ := Bool.and_eq_true_iff.mp hwell
    obtain ⟨r, hbytes, hr⟩ := State.receiveBytes_settled hu hquiet
    rw [hbytes]
    exact ⟨unchanged p r, State.receiversSettled_setReceiver hu p (hr hend)⟩
  | frameAbandoned p bytes =>
    obtain ⟨r, hbytes, -⟩ := State.receiveBytes_settled hu hwell
    rw [State.receivePause, hbytes, State.setReceiver_setReceiver]
    exact ⟨unchanged p _, State.receiversSettled_setReceiver hu p rfl⟩
  | missingStopBit p bytes =>
    obtain ⟨r, hbytes, -⟩ := State.receiveBytes_settled hu hwell
    rw [State.receiveLevels_unstopped, hbytes, State.setReceiver_setReceiver]
    exact ⟨unchanged p _, State.receiversSettled_setReceiver hu p rfl⟩

theorem exec_orderly {i : Instr} {s t : State} (he : exec i s = .next t) (hwell : i.wellFormed = true)
    (hs : s.receiversSettled) : s.BoardsChange t ∧ t.receiversSettled := by
  cases exec_executes he with
  | ignored => exact ⟨.refl s, hs⟩
  | hostWrite =>
    exact ⟨(State.BoardsChange.refl s).before (by simp) (by simp), State.receiversSettled_of_receivers hs (by simp)⟩
  | writeRegister position data =>
    exact ⟨State.writeRegister_boardsChange position data,
      State.receiversSettled_of_receivers hs (State.writeRegister_receivers s position data)⟩
  | event hmeets htakes =>
    obtain ⟨htracker, hports, -⟩ := hmeets.keeps
    obtain ⟨hchange, hsettled⟩ := htakes.orderly hwell (State.receiversSettled_of_receivers hs (by rw [hports]))
    exact ⟨hchange.after (by rw [htracker]) (by rw [htracker]), hsettled⟩
  | reset _ cause extent => exact ⟨State.resetBy_boardsChange cause extent, State.resetBy_receiversSettled s cause
      extent⟩

/-! ### The tables in use (R46) -/

theorem State.tablesKept_of_tables {s t : State} (h : t.tables = s.tables) : s.tablesKept t := by
  intro id _
  rw [h]
  exact ⟨rfl, fun _ => rfl, fun _ => rfl⟩

theorem State.recipeInUse_isSome {s : State} {id : RecipeId} (h : s.recipeInUse id = true) :
    s.tables.recipes[id] = some (s.recipe id) := by
  obtain ⟨r, hr⟩ := Option.isSome_iff_exists.mp (Bool.and_eq_true_iff.mp h).1
  simp only [State.recipe, hr, Option.getD_some]

/-- What follows does not touch the tables. -/
theorem State.tablesKept.of_tables {s t u : State} (h : s.tablesKept t) (hu : u.tables = t.tables) :
    s.tablesKept u := by
  simpa only [State.tablesKept, hu] using h

/-- What comes before changes neither the tables nor the boards. -/
theorem State.tablesKept.after {s t u : State} (h : u.tablesKept t) (htracker : u.tracker = s.tracker)
    (htables : u.tables = s.tables) : s.tablesKept t := by
  obtain ⟨⟩ := s
  obtain ⟨⟩ := u
  obtain rfl := htracker
  obtain rfl := htables
  exact h

/-- The command at the front of the queue runs on the rest of the queue. -/
theorem step_exec {s t : State} {c : Instr} {rest : List Instr} (hpending : s.pending = c :: rest)
    (hstep : step s = .next t) : exec c { s with pending := rest } = .next t := by
  simpa [step, hpending] using hstep

/-- Tables that keep what the recipes in use need (R46). -/
theorem State.tablesKept_mapTables {s : State} {f : Tables → Tables}
    (h : ∀ id : RecipeId, s.recipeInUse id = true → (f s.tables).recipes[id] = s.tables.recipes[id] ∧
      (f s.tables).coatings[(s.recipe id).coating] = s.tables.coatings[(s.recipe id).coating] ∧
      (s.tables.programs[(s.recipe id).program].state = .complete →
        (f s.tables).programs[(s.recipe id).program] = s.tables.programs[(s.recipe id).program])) :
    s.tablesKept (s.mapTables f) := by
  intro id hid
  obtain ⟨hrecipe, hcoating, hprogram⟩ := h id hid
  exact ⟨hrecipe, fun _ => hcoating, hprogram⟩

@[simp] theorem State.disposeOf_tables (s : State) (a : Action) (n : Tag) : (s.disposeOf a n).1.tables = s.tables := by
  simp [State.disposeOf]

@[simp] theorem State.recoat_tables (s : State) (n : Tag) : (s.recoat n).1.tables = s.tables := by
  simp [State.recoat]

theorem foldClearBoard_tables (s : State) (l : List Tag) : (l.foldl State.clearBoard s).tables = s.tables :=
  foldl_keeps (·.tables) _ (fun _ _ => by simp [State.clearBoard]) s l

@[simp] theorem State.clearLine_tables (s : State) : s.clearLine.tables = s.tables := by
  simp [State.clearLine, State.clearFrames, State.clearLists, foldClearBoard_tables]

theorem State.writeRegister_tables (s : State) (position : BitVec 3) (data : Word) :
    (s.writeRegister position data).tables = s.tables := by
  unfold State.writeRegister
  split
  · unfold State.writeLineCtl
    split
    · exact (State.requestMode_keeps s _).2.2.2.1
    · exact (State.requestMode_keeps s _).2.2.2.1
    · exact (State.requestMode_keeps s _).2.2.2.1
    · rfl
  all_goals rfl

theorem State.Delivers.tables {s t : State} (h : s.Delivers t) : t.tables = s.tables := by
  cases h with
  | ignored => rfl
  | segStarted | segDone | motionFault | pressure | arrival | maskResult | transferDone | transferFault | slotState
  | guard | ovenSample | entrySeen | exitSeen => simp

theorem State.Acts.tables {s t : State} (h : s.Acts t) : t.tables = s.tables := by
  cases h with
  | nothing | tick | flashOff | transmit => rfl
  | ovenSilent => simp [foldRecords_keeps (fun _ _ => BoardRecord.addReason .cureUnverified)]
  | verification | transferStart | transferDeadline | segmentDeadline | pressureSilence | flashOffHead | openTime
  | recoatExpired => simp

theorem State.receiveBytes_tables (s : State) (p : Port) (bytes : List Byte) :
    (s.receiveBytes p bytes).tables = s.tables :=
  State.receiveBytes_induct (P := fun t => t.tables = s.tables) (fun h k => h.tables.trans k) (fun _ _ k => k) rfl p
      bytes

/-- A check that passes of a list that all pass. -/
theorem allPass_mem {l : List Check} (h : allPass l) {b : Bool} {r : CardResult} (hmem : (b, r) ∈ l) : b = false :=
  h _ hmem

/-- What the chunk check of a PATH_LOAD lets through: chunk 0 of a program that no recipe in use names, a later chunk of
one that is BUILDING (R57). -/
theorem State.chunkCheck_passes {s : State} {c : TakenCard} (h : (s.chunkCheck c).1 = false) {id : RecipeId}
    (hid : s.recipeInUse id = true)
    (hstands : c.u8 17 ≠ 0 → s.tables.programs[(s.recipe id).program].state = .complete) :
    (s.recipe id).program ≠ c.programId := by
  intro heq
  by_cases hfirst : c.u8 17 = 0
  · simp only [State.chunkCheck, if_pos hfirst, State.inUseCheck] at h
    split at h
    next hnone => exact State.lowestInUse_eq_none_iff.mp hnone id ⟨hid, by simp [heq]⟩
    · cases h
  · simp only [State.chunkCheck, if_neg hfirst, Bool.not_eq_false', Bool.and_eq_true, beq_iff_eq] at h
    have hstate : s.tables.programs[(s.recipe id).program].state = s.tables.programs[c.programId].state :=
      congrArg (fun q : ProgramId => s.tables.programs[q].state) heq
    rw [hstands hfirst, h.1] at hstate
    cases hstate

/-- Chunk 0 leaves a recipe that names another program (R57). -/
theorem Tables.startOver_recipe {k : Tables} {p : ProgramId} {id : RecipeId} {r : Recipe} (h : k.recipes[id] = some r)
    (hr : r.program ≠ p) : (k.startOver p).recipes[id] = k.recipes[id] := by
  have hat : k.recipes[id.val] = some r := h
  simp [Tables.startOver, hr, hat]

theorem Tables.setProgram_programs (k : Tables) (p q : ProgramId) (v : Program) (h : q ≠ p) :
    (k.programs.set p v)[q] = k.programs[q] := by
  simp only [Fin.getElem_fin]
  rw [Vector.getElem_set_ne]
  exact fun heq => h (Fin.ext heq.symm)

/-- A chunk loaded, or its program abandoned, leaves every other program and the recipes that name them (R57, R58). -/
theorem State.loadChunk_tablesKept {s : State} {c : TakenCard} (h : (s.chunkCheck c).1 = false) :
    s.tablesKept (s.loadChunk c).1 := by
  have started : ∀ id : RecipeId, s.recipeInUse id = true →
      (if c.u8 17 == 0 then s.tables.startOver c.programId else s.tables).recipes[id] = s.tables.recipes[id] ∧
      (if c.u8 17 == 0 then s.tables.startOver c.programId else s.tables).coatings = s.tables.coatings ∧
      ∀ q ≠ c.programId,
        (if c.u8 17 == 0 then s.tables.startOver c.programId else s.tables).programs[q] = s.tables.programs[q] := by
    intro id hid
    split
    next hfirst =>
      have hother := State.chunkCheck_passes h hid fun hne => absurd (beq_iff_eq.mp hfirst) hne
      exact ⟨Tables.startOver_recipe (State.recipeInUse_isSome hid) hother, rfl,
        fun q hq => Tables.setProgram_programs _ _ _ _ hq⟩
    · exact ⟨rfl, rfl, fun _ _ => rfl⟩
  unfold State.loadChunk
  dsimp only
  split <;>
  · refine State.tablesKept_mapTables fun id hid => ?_
    obtain ⟨hrecipe, hcoating, hprogram⟩ := started id hid
    refine ⟨hrecipe, congrArg (fun v : Vector (Option Coating) 4 => v[(s.recipe id).coating]) hcoating,
      fun hcomplete => ?_⟩
    have hother := State.chunkCheck_passes h hid fun _ => hcomplete
    exact (Tables.setProgram_programs _ _ _ _ hother).trans (hprogram _ hother)

/-- A recipe loaded leaves every other recipe. -/
theorem State.recipeLoad_tablesKept {s : State} {id : RecipeId} (h : s.recipeInUse id = false) (r : Recipe) :
    s.tablesKept (s.mapTables fun k => { k with recipes := k.recipes.set id (some r) }) := by
  refine State.tablesKept_mapTables fun j hj => ⟨?_, rfl, fun _ => rfl⟩
  have hne : j ≠ id := fun heq => by simp [heq, h] at hj
  simp only [Fin.getElem_fin]
  rw [Vector.getElem_set_ne]
  exact fun heq => hne (Fin.ext heq.symm)

/-- A coating loaded over an empty entry, or one that no recipe in use names (R52). -/
theorem State.coatingLoad_tablesKept {s : State} {c : TakenCard} (h : allPass (s.coatingLoadChecks c)) :
    s.tablesKept (s.mapTables fun k => { k with coatings := k.coatings.set c.coatingId (some c.coating) }) := by
  intro id hid
  refine ⟨rfl, fun hloaded => ?_, fun _ => rfl⟩
  have hne : (s.recipe id).coating ≠ c.coatingId := by
    intro heq
    obtain ⟨hcheck, -⟩ := allPass_cons.mp (allPass_append.mp h).2
    have hsome : s.tables.coatings[c.coatingId].isSome = true :=
      (congrArg (fun d : CoatingId => s.tables.coatings[d].isSome) heq).symm.trans hloaded
    unfold State.inUseCheck at hcheck
    split at hcheck
    next hnone => exact State.lowestInUse_eq_none_iff.mp hnone id ⟨hid, beq_iff_eq.mpr heq⟩
    · rw [hsome] at hcheck
      cases hcheck
  simp only [State.mapTables, Fin.getElem_fin]
  rw [Vector.getElem_set_ne]
  exact fun heq => hne (Fin.ext heq.symm)

theorem Instr.cardEffect_tablesKept {i : Instr} {apply : TakenCard → State → State × CardResult}
    (hi : Instr.cardEffect i = some apply) (c : TakenCard) (s : State) : s.tablesKept (apply c s).1 := by
  have judged {checks : List Check} {effect : State → State × CardResult}
      (heffect : allPass checks → s.tablesKept (effect s).1) : s.tablesKept (judge checks effect s).1 :=
    judge_induct (P := s.tablesKept) (State.tablesKept_of_tables rfl) heffect
  have outside {checks : List Check} {effect : State → State × CardResult}
      (heffect : (effect s).1.tables = s.tables) : s.tablesKept (judge checks effect s).1 :=
    judged fun _ => State.tablesKept_of_tables heffect
  have elsewhere {f : Tables → Tables}
      (heffect : (f s.tables).recipes = s.tables.recipes ∧ (f s.tables).coatings = s.tables.coatings ∧
        (f s.tables).programs = s.tables.programs) : s.tablesKept (s.mapTables f) := by
    obtain ⟨hrecipes, hcoatings, hprograms⟩ := heffect
    exact State.tablesKept_mapTables fun id _ => by simp [hrecipes, hcoatings, hprograms]
  cases i <;> cases hi
  case refusedKind => exact State.tablesKept_of_tables rfl
  case applicatorLoad | patchClear => exact judged fun _ => elsewhere ⟨rfl, rfl, rfl⟩
  case coatingLoad => exact judged State.coatingLoad_tablesKept
  case recipeLoad =>
    refine judged fun hpass => ?_
    have hfree : s.recipeInUse c.recipeId = false := allPass_mem hpass
      (r := result .refusedInUse [s.admissionsOf c.recipeId, s.recordsOf c.recipeId]) (by simp [State.recipeLoadChecks])
    exact (State.recipeLoad_tablesKept hfree c.recipe).of_tables (by simp)
  case pathLoad => exact judged fun hpass => State.loadChunk_tablesKept (allPass_cons.mp (allPass_append.mp hpass).2).1
  case patchSet =>
    refine judged fun _ => ?_
    split
    · exact State.tablesKept_of_tables rfl
    · exact elsewhere ⟨rfl, rfl, rfl⟩
  case ovenLoad => 
    exact judged fun _ => State.tablesKept.of_tables (t := s.mapTables fun k => { k with oven := some c.ovenTable })
      (elsewhere ⟨rfl, rfl, rfl⟩) (by simp)
  case withdrawCard =>
    refine outside ?_
    split
    · rfl
    · dsimp only
      split <;> simp
  case disposeRelease | disposeScrap | disposeRecoat | admitCard => exact outside (by simp)
  case reclaimMap =>
    refine outside ?_
    split <;> simp
  case declareClear =>
    refine outside ?_
    dsimp only
    exact State.clearLine_tables s
  case resumeCell =>
    refine outside ?_
    dsimp only
    simp

/-! ### The commands -/

theorem State.Takes.tablesKept {i : Instr} {u t : State} (h : u.Takes i t) : u.tablesKept t := by
  cases h with
  | nothing => exact State.tablesKept_of_tables rfl
  | walk _ first visits => exact State.tablesKept_of_tables (by simp)
  | scan _ visits => exact State.tablesKept_of_tables (u.scan_keeps visits).2.2
  | card hi c rest => exact (Instr.cardEffect_tablesKept hi c u).of_tables (by simp)
  | internal _ hacts => exact State.tablesKept_of_tables hacts.tables
  | message => exact State.tablesKept_of_tables (u.delivers_takeMessage i).tables
  | frame _ p bytes | frameDiscarded p bytes | frameAbandoned p bytes =>
    exact State.tablesKept_of_tables (u.receiveBytes_tables p bytes)
  | missingStopBit p bytes =>
    rw [State.receiveLevels_unstopped]
    exact State.tablesKept_of_tables (u.receiveBytes_tables p bytes)

theorem exec_tablesKept {i : Instr} {s t : State} (he : exec i s = .next t) (hi : ordinary i) : s.tablesKept t := by
  cases exec_executes he with
  | ignored => exact State.tablesKept_of_tables rfl
  | hostWrite => exact State.tablesKept_of_tables (by simp)
  | writeRegister position data => exact State.tablesKept_of_tables (s.writeRegister_tables position data)
  | event hmeets htakes =>
    obtain ⟨htracker, -, htables⟩ := hmeets.keeps
    exact htakes.tablesKept.after htracker htables
  | reset hreset => exact absurd hi hreset

/-- Settles O60, by what a command does: one event at most changes the boards, once, and a table in use is not written.
-/
theorem stepsKeepRecordsAndTablesInUse : Obligations.StepsKeepRecordsAndTablesInUse := by
  refine ⟨fun p => by cases p <;> rfl, fun s t c rest hpending hstep => ?_⟩
  have hexec := step_exec hpending hstep
  have htables := exec_tablesKept hexec
  refine ⟨fun hwell hs => ?_, htables⟩
  obtain ⟨hchange, hsettled⟩ := exec_orderly hexec hwell (State.receiversSettled_of_receivers hs rfl)
  exact ⟨hchange.recordsKept, hsettled⟩

end Sys2Proof.Machine
end

section
/-! PROOFS. The law of the spray cell and the law of the frames through every event (R82-R105, R109-R116). -/

namespace Sys2Proof.Machine

/-! ### The steady sequencer -/

/-- The part of the cell's law that speaks of the sequencer alone: a segment in flight only in RUNNING, one that waits
only in INTERLOCKED or PAUSED, and a valve open only in STARTED (R82, R90). -/
structure Sequencer.steady (q : Sequencer) : Prop where
  flying : q.inFlight = true → q.cell = .running
  waiting : q.phase = .waiting → (q.cell = .interlocked ∨ q.cell = .paused) ∧ q.wetSegment ≠ none
  valve : ∀ a, q.valve = some a → q.phase = .started ∧ q.wetSegment = some a

theorem Sequencer.inFlight_iff (q : Sequencer) : q.inFlight = true ↔ q.phase = .sent ∨ q.phase = .started := by
  simp [Sequencer.inFlight]

/-- With no segment in any phase and the valve closed the sequencer is steady, whatever the cell. -/
theorem Sequencer.steady_of_resting {q : Sequencer} (hphase : q.phase = .none) (hvalve : q.valve = none) : q.steady :=
  ⟨by simp [Sequencer.inFlight, hphase], by simp [hphase], by simp [hvalve]⟩

namespace Sequencer.steady

variable {q : Sequencer} (h : q.steady)
include h

theorem valve_closed (hphase : q.phase ≠ .started) : q.valve = none := by
  by_contra hopen
  obtain ⟨a, ha⟩ := Option.ne_none_iff_exists'.mp hopen
  exact hphase (h.valve a ha).1

/-- A cell that is neither RUNNING nor INTERLOCKED nor PAUSED has no segment in any phase. -/
theorem resting (hrunning : q.cell ≠ .running) (hinterlocked : q.cell ≠ .interlocked) (hpaused : q.cell ≠ .paused) :
    q.phase = .none ∧ q.valve = none := by
  have hphase : q.phase = .none := by
    cases hp : q.phase with
    | none => rfl
    | waiting =>
      obtain ⟨hcell, -⟩ := h.waiting hp
      exact (hcell.elim hinterlocked hpaused).elim
    | sent => exact absurd (h.flying (q.inFlight_iff.mpr (.inl hp))) hrunning
    | started => exact absurd (h.flying (q.inFlight_iff.mpr (.inr hp))) hrunning
  exact ⟨hphase, h.valve_closed (by simp [hphase])⟩

/-- A cell that is not RUNNING has no segment in flight and its valve closed. -/
theorem grounded (hrunning : q.cell ≠ .running) : q.inFlight = false ∧ q.valve = none := by
  have hflight : q.inFlight = false := by
    rw [← Bool.not_eq_true]
    exact fun hflight => hrunning (h.flying hflight)
  exact ⟨hflight, h.valve_closed fun hstarted => by simp [Sequencer.inFlight, hstarted] at hflight⟩

/-- A sequencer of the same cell, phase, segment and valve is steady too. -/
theorem congr {r : Sequencer} (hcell : r.cell = q.cell) (hphase : r.phase = q.phase) (hsegment : r.segment = q.segment)
    (hvalve : r.valve = q.valve) : r.steady := by
  have hwet : r.wetSegment = q.wetSegment := by rw [Sequencer.wetSegment, hsegment, Sequencer.wetSegment]
  refine ⟨?_, ?_, ?_⟩
  · simpa only [Sequencer.inFlight, hphase, hcell] using h.flying
  · simpa only [hphase, hcell, hwet] using h.waiting
  · simpa only [hphase, hvalve, hwet] using h.valve

end Sequencer.steady

/-! ### The sequencer after each operation -/

variable {s : State}

@[simp] theorem State.setCell_sequencer (s : State) (v : CellState) (c : Option StopCause) :
    (s.setCell v c).sequencer = { s.sequencer with cell := v } := by
  simp [State.setCell]

@[simp] theorem State.mapMonitor_steady (s : State) (a : ApplicatorId) (f : Monitor → Monitor) :
    (s.mapMonitor a f).sequencer = { s.sequencer with
      monitors := s.sequencer.monitors.set a (f s.sequencer.monitors[a]) } := rfl

@[simp] theorem State.pathEnd_sequencer (s : State) (t : Tag) (e : PathEnd) :
    (s.pathEnd t e).sequencer = { s.sequencer with stopCause := none, stopApplicator := none, cell := .unloading } := by
  simp [State.pathEnd]

/-- A segment sent is in phase SENT, and all else that the law names stands. -/
theorem State.sendSegment_sequencer (t : Tag) {g : HeldSegment} (hsegment : s.sequencer.segment = some g) :
    ∃ d, (s.sendSegment t).sequencer = { s.sequencer with phase := .sent, deadline := d } := by
  simp [State.sendSegment, hsegment]

theorem State.sendSegment_steady (t : Tag) {g : HeldSegment} (hsegment : s.sequencer.segment = some g)
    (hcell : s.sequencer.cell = .running) (hvalve : s.sequencer.valve = none) :
    (s.sendSegment t).sequencer.steady ∧ (s.sendSegment t).sequencer.cell = .running := by
  obtain ⟨d, hsent⟩ := State.sendSegment_sequencer t hsegment
  rw [hsent]
  exact ⟨⟨fun _ => hcell, by simp, by simp [hvalve]⟩, hcell⟩

/-- A wet segment that is checked is sent in RUNNING, or waits in INTERLOCKED. -/
theorem State.pressureCheck_steady (t : Tag) {a : ApplicatorId} (hwet : s.sequencer.wetSegment ≠ none)
    (hcell : s.sequencer.cell = .running) (hvalve : s.sequencer.valve = none) :
    (s.pressureCheck t a).sequencer.steady ∧
      ((s.pressureCheck t a).sequencer.cell = .running ∨ (s.pressureCheck t a).sequencer.cell = .interlocked) := by
  unfold State.pressureCheck
  split
  · obtain ⟨g, hsegment⟩ : ∃ g, s.sequencer.segment = some g := by
      cases hsegment : s.sequencer.segment with
      | none => simp [Sequencer.wetSegment, hsegment] at hwet
      | some g => exact ⟨g, rfl⟩
    obtain ⟨hsteady, hrunning⟩ := State.sendSegment_steady t hsegment hcell hvalve
    exact ⟨hsteady, .inl hrunning⟩
  · refine ⟨⟨?_, fun _ => ?_, ?_⟩, .inr (by simp)⟩
    · simp [Sequencer.inFlight]
    · simpa [Sequencer.wetSegment] using hwet
    · simp [hvalve]

/-- A fetch in RUNNING, with no segment in any phase, leaves the cell RUNNING, INTERLOCKED or UNLOADING. -/
theorem State.fetch_steady (t : Tag) (hcell : s.sequencer.cell = .running) (hphase : s.sequencer.phase = .none)
    (hvalve : s.sequencer.valve = none) :
    (s.fetch t).sequencer.steady ∧ ((s.fetch t).sequencer.cell = .running ∨
      (s.fetch t).sequencer.cell = .interlocked ∨ (s.fetch t).sequencer.cell = .unloading) := by
  unfold State.fetch
  dsimp only
  split
  · exact And.imp_right .inl (State.sendSegment_steady t (g := ⟨_, false⟩) rfl hcell hvalve)
  next a happlicator =>
    split
    · refine And.imp_right (Or.imp_right .inl) (State.pressureCheck_steady t (a := a) ?_ hcell hvalve)
      simp [Sequencer.wetSegment, HeldSegment.wet, happlicator]
    · split
      · refine And.imp_right .inl (State.sendSegment_steady t (g := ⟨_, true⟩) rfl ?_ ?_) <;> simp [hcell, hvalve]
      · refine ⟨Sequencer.steady_of_resting ?_ ?_, .inr (.inr ?_)⟩ <;> simp [hphase, hvalve]

/-- After an abort the cell is STOPPED, with no segment and the valve closed. -/
theorem State.abort_steady (s : State) (c : StopCause) (a : Option ApplicatorId) :
    (s.abort c a).sequencer.steady ∧ (s.abort c a).sequencer.cell = .stopped := by
  have hvalve : s.closeValve.sequencer.valve = none := by
    unfold State.closeValve
    split
    next h => exact h
    next => simp
  have hdropped : (s.closeValve.send .halt).dropSegment.sequencer.phase = .none ∧
      (s.closeValve.send .halt).dropSegment.sequencer.valve = none := by
    unfold State.dropSegment
    dsimp only
    split <;> simp [hvalve]
  have hbody : (s.abort c a).sequencer.phase = .none ∧ (s.abort c a).sequencer.valve = none ∧
      (s.abort c a).sequencer.cell = .stopped := by
    unfold State.abort
    dsimp only
    split <;> simp [hdropped]
  obtain ⟨hphase, hclosed, hcell⟩ := hbody
  exact ⟨Sequencer.steady_of_resting hphase hclosed, hcell⟩


/-! ### Moves of the cell -/

/-- How many frames are in a state. -/
def State.framesIn (s : State) (v : FrameState) : Nat := (s.coverage.frames.toList.filter fun e => e.state == v).length

theorem State.activeFrames_eq (s : State) : s.activeFrames = s.framesIn .active := rfl

theorem State.reservedFrames_eq (s : State) : s.reservedFrames = s.framesIn .reserved := rfl

/-- What an operation may do to the cell and the frames: the sequencer stays steady, the cell stands or goes from a
state that is neither LOADING nor UNLOADING to one that is neither IDLE nor LOADING, the routes into and out of it
stay IDLE where they are, no frame more is ACTIVE, and no more than four are RESERVED. -/
structure State.CellMoves (s t : State) : Prop where
  steady : t.sequencer.steady
  cell : t.sequencer.cell = s.sequencer.cell ∨
    ((s.sequencer.cell ≠ .loading ∧ s.sequencer.cell ≠ .unloading) ∧
      t.sequencer.cell ≠ .idle ∧ t.sequencer.cell ≠ .loading)
  infeed : s.tracker.infeedToCell = .idle → t.tracker.infeedToCell = .idle
  outfeed : s.tracker.cellToFlash = .idle → t.tracker.cellToFlash = .idle
  active : t.framesIn .active ≤ s.framesIn .active
  reserved : s.framesIn .reserved ≤ 4 → t.framesIn .reserved ≤ 4

theorem State.CellMoves.trans {s t u : State} (h : s.CellMoves t) (k : t.CellMoves u) : s.CellMoves u := by
  refine ⟨k.steady, ?_, k.infeed ∘ h.infeed, k.outfeed ∘ h.outfeed, k.active.trans h.active,
    k.reserved ∘ h.reserved⟩
  obtain hsame | ⟨hfrom, hto⟩ := k.cell
  · exact h.cell.imp hsame.trans fun ⟨hfrom, hto⟩ => ⟨hfrom, hsame ▸ hto⟩
  · obtain hfirst | ⟨hstart, -⟩ := h.cell
    · exact .inr ⟨hfirst ▸ hfrom, hto⟩
    · exact .inr ⟨hstart, hto⟩

theorem State.infeed_of_layout {s t : State} (h : t.tracker.layout = s.tracker.layout) :
    t.tracker.infeedToCell = s.tracker.infeedToCell :=
  (congrArg Tracker.infeedToCell h :)

theorem State.outfeed_of_layout {s t : State} (h : t.tracker.layout = s.tracker.layout) :
    t.tracker.cellToFlash = s.tracker.cellToFlash :=
  (congrArg Tracker.cellToFlash h :)

theorem State.framesIn_of_coverage {s t : State} (h : t.coverage = s.coverage) (v : FrameState) :
    t.framesIn v ≤ s.framesIn v := by
  simp [State.framesIn, h]

/-- An operation on the cell alone. -/
theorem State.CellMoves.of_sequencer {s t : State} (hsteady : t.sequencer.steady)
    (hcell : t.sequencer.cell = s.sequencer.cell ∨
      ((s.sequencer.cell ≠ .loading ∧ s.sequencer.cell ≠ .unloading) ∧
        t.sequencer.cell ≠ .idle ∧ t.sequencer.cell ≠ .loading))
    (hlayout : t.tracker.layout = s.tracker.layout) (hcoverage : t.coverage = s.coverage) : s.CellMoves t :=
  ⟨hsteady, hcell, (State.infeed_of_layout hlayout).trans, (State.outfeed_of_layout hlayout).trans,
    State.framesIn_of_coverage hcoverage _, (State.framesIn_of_coverage hcoverage _).trans⟩

/-- An operation beside the cell. -/
theorem State.CellMoves.of_eq {s t : State} (h : s.sequencer.steady) (hsequencer : t.sequencer = s.sequencer)
    (hlayout : t.tracker.layout = s.tracker.layout) (hcoverage : t.coverage = s.coverage) : s.CellMoves t :=
  .of_sequencer (hsequencer ▸ h) (.inl (by rw [hsequencer])) hlayout hcoverage

/-- What follows an operation, beside the cell. -/
theorem State.CellMoves.andThen {s t u : State} (h : s.CellMoves t) (hsequencer : u.sequencer = t.sequencer)
    (hlayout : u.tracker.layout = t.tracker.layout) (hcoverage : u.coverage = t.coverage) : s.CellMoves u :=
  h.trans (.of_eq h.steady hsequencer hlayout hcoverage)

theorem State.CellMoves.refl {s : State} (h : s.sequencer.steady) : s.CellMoves s := .of_eq h rfl rfl rfl

theorem State.CellMoves.cellLaw {s t : State} (h : s.CellMoves t) (hcell : s.cellLaw) : t.cellLaw := by
  refine ⟨h.steady.flying, h.steady.waiting, h.steady.valve, fun hroute => ?_, fun hroute => ?_⟩
  · have hloading := hcell.infeed fun hidle => hroute (h.infeed hidle)
    exact h.cell.elim (·.trans hloading) fun ⟨⟨hno, _⟩, _⟩ => absurd hloading hno
  · have hunloading := hcell.outfeed fun hidle => hroute (h.outfeed hidle)
    exact h.cell.elim (·.trans hunloading) fun ⟨⟨_, hno⟩, _⟩ => absurd hunloading hno

theorem State.CellMoves.frameLaw {s t : State} (h : s.CellMoves t) (hframe : s.frameLaw) : t.frameLaw := by
  refine ⟨h.active.trans hframe.active, fun hunused => ?_, h.reserved hframe.reserved⟩
  obtain hsame | ⟨-, hidle, hloading⟩ := h.cell
  · exact Nat.le_zero.mp (h.active.trans (hframe.unused (hsame ▸ hunused)).le)
  · exact (hunused.elim hidle hloading).elim

theorem State.cellLaw.steady {s : State} (h : s.cellLaw) : s.sequencer.steady := ⟨h.flying, h.waiting, h.valve⟩

/-! ### The spray cell's operations -/

section

variable (h : s.sequencer.steady)

theorem State.abort_cellMoves (hcell : s.sequencer.cell = .running ∨ s.sequencer.cell = .interlocked) (c : StopCause)
    (a : Option ApplicatorId) : s.CellMoves (s.abort c a) := by
  obtain ⟨hsteady, hstopped⟩ := s.abort_steady c a
  refine .of_sequencer hsteady (.inr ⟨?_, by simp [hstopped]⟩) (by simp) (by simp)
  obtain hrunning | hinterlocked := hcell <;> simp [*]

include h

theorem State.abortActive_cellMoves (c : StopCause) : s.CellMoves (s.abortActive c) := by
  unfold State.abortActive
  split
  next hcell => exact State.abort_cellMoves (.inl hcell) c none
  next hcell => exact State.abort_cellMoves (.inr hcell) c none
  · exact .refl h

theorem State.leavePaused_cellMoves : s.CellMoves s.leavePaused := by
  unfold State.leavePaused
  split
  · exact .refl h
  next t _ =>
    split
    next hpaused =>
      obtain ⟨hpaused, -⟩ := hpaused
      have hvalve := (h.grounded (by simp [hpaused])).2
      have hfrom : s.sequencer.cell ≠ .loading ∧ s.sequencer.cell ≠ .unloading := by simp [hpaused]
      split
      next hdry =>
        have hphase : s.sequencer.phase = .none := by
          cases hp : s.sequencer.phase with
          | none => rfl
          | waiting => exact absurd hdry (h.waiting hp).2
          | sent => simpa [hpaused] using h.flying ((Sequencer.inFlight_iff _).mpr (.inl hp))
          | started => simpa [hpaused] using h.flying ((Sequencer.inFlight_iff _).mpr (.inr hp))
        obtain ⟨hsteady, hcell⟩ := State.fetch_steady (s := s.setCell .running none) t (by simp) (by simpa using hphase)
          (by simpa using hvalve)
        refine .of_sequencer hsteady (.inr ⟨hfrom, ?_⟩) (by simp) (by simp)
        obtain hcell | hcell | hcell := hcell <;> simp [hcell]
      next a hwet =>
        obtain ⟨g, hsegment, -⟩ := Option.bind_eq_some_iff.mp hwet
        split
        · obtain ⟨hsteady, hcell⟩ := State.sendSegment_steady (s := s.setCell .running none) t (g := g)
            (by simpa using hsegment) (by simp) (by simpa using hvalve)
          exact .of_sequencer hsteady (.inr ⟨hfrom, by simp [hcell]⟩) (by simp) (by simp)
        · refine .of_sequencer ⟨fun hflying => ?_, fun _ => ⟨.inl (by simp), ?_⟩, by simp [hvalve]⟩
            (.inr ⟨hfrom, by simp⟩) (by simp) (by simp)
          · have hgrounded := (h.grounded (by simp [hpaused])).1
            simp [Sequencer.inFlight] at hflying hgrounded
            simp [hgrounded] at hflying
          · simp [Sequencer.wetSegment, hwet]
    · exact .refl h

theorem State.cellOnMode_cellMoves : s.CellMoves s.cellOnMode := by
  unfold State.cellOnMode
  split
  · split
    next hcell =>
      obtain ⟨hflight, hvalve⟩ := h.grounded (by simp [hcell])
      refine .of_sequencer ⟨fun hflying => ?_, fun hwaiting => ⟨.inr (by simp), ?_⟩, by simp [hvalve]⟩
        (.inr (by simp [hcell])) (by simp) (by simp)
      · simp [Sequencer.inFlight] at hflying hflight
        simp [hflight] at hflying
      · simpa [Sequencer.wetSegment] using (h.waiting (by simpa using hwaiting)).2
    · exact .refl h
  · exact State.leavePaused_cellMoves h
  · exact State.leavePaused_cellMoves h
  · exact State.abortActive_cellMoves h .motion
  · exact .refl h

theorem State.handMode_cellMoves : s.CellMoves s.handMode := by
  have hloader : s.CellMoves s.driveLoader := .of_eq h (by simp) (by simp) (by simp)
  exact (hloader.trans (State.cellOnMode_cellMoves hloader.steady)).andThen (by simp [State.handMode])
    (by simp [State.handMode]) (by simp [State.handMode])

theorem State.changeMode_cellMoves (m : LineMode) : s.CellMoves (s.changeMode m) := by
  have hentry : s.CellMoves ({ s with line := { s.line with mode := m } }.append (.lineMode m s.line.mode none)) :=
    .of_eq h (by simp) (by simp) (by simp)
  exact hentry.trans (State.handMode_cellMoves hentry.steady)

theorem State.reportEmpty_cellMoves : s.CellMoves s.reportEmpty := by
  unfold State.reportEmpty
  split
  · exact State.changeMode_cellMoves h .ready
  · exact .refl h

theorem State.raiseFault_cellMoves (c : FaultCode) (r : Option Route) (n : Option Tag) (k : Nat) :
    s.CellMoves (s.raiseFault c r n k) := by
  unfold State.raiseFault
  dsimp only
  split
  · refine State.CellMoves.trans (.of_eq h ?_ ?_ ?_) (State.handMode_cellMoves ?_) <;> simp [h]
  · exact .of_eq h (by simp) (by simp) (by simp)

theorem State.requestMode_cellMoves (m : LineMode) : s.CellMoves (s.requestMode m) := by
  unfold State.requestMode
  split
  · have hchanged := State.changeMode_cellMoves h m
    exact hchanged.trans (State.reportEmpty_cellMoves hchanged.steady)
  · exact .of_eq h (by simp) (by simp) (by simp)


/-! ### The motion and pressure messages -/

omit h in
/-- A named segment is held, in the phase asked for. -/
theorem State.namesSegment_phase {tag : Byte} {i : Half} {v : Phase} {t : Tag} {g : HeldSegment}
    (hnames : s.namesSegment tag i v = some (t, g)) : s.sequencer.phase = v ∧ s.sequencer.segment = some g := by
  unfold State.namesSegment at hnames
  split at hnames
  next hsegment =>
    split at hnames
    next hphase =>
      cases hnames
      exact ⟨hphase.1, hsegment⟩
    · cases hnames
  · cases hnames

theorem State.takeSegStarted_cellMoves (tag : Byte) (i : Half) : s.CellMoves (s.takeSegStarted tag i) := by
  unfold State.takeSegStarted
  split
  · exact .refl h
  next t g hnames =>
    obtain ⟨hphase, hsegment⟩ := State.namesSegment_phase hnames
    have hcell := h.flying ((Sequencer.inFlight_iff _).mpr (.inl hphase))
    have hvalve := h.valve_closed (by simp [hphase])
    dsimp only
    split
    · exact .of_sequencer ⟨fun _ => hcell, by simp, by simp [hvalve]⟩ (.inl (by simp)) (by simp) (by simp)
    next a hwet =>
      split
      · refine .of_sequencer ⟨fun _ => hcell, by simp [State.openValve], ?_⟩ (.inl ?_) ?_ ?_ <;>
          simp [State.openValve, Sequencer.wetSegment, hsegment, hwet]
      · exact State.CellMoves.trans (t := s.mapSequencer fun q => { q with phase := .started })
          (.of_sequencer ⟨fun _ => hcell, by simp, by simp [hvalve]⟩ (.inl (by simp)) (by simp) (by simp))
          (State.abort_cellMoves (.inl (by simpa using hcell)) _ _)

omit h in
/-- At the boundary the cell RUNNING goes to UNLOADING or PAUSED, or fetches. -/
theorem State.boundary_cellMoves (hcell : s.sequencer.cell = .running) (hphase : s.sequencer.phase = .none)
    (hvalve : s.sequencer.valve = none) (t : Tag) : s.CellMoves (s.boundary t) := by
  unfold State.boundary
  split
  · exact .of_sequencer (Sequencer.steady_of_resting (by simp [hphase]) (by simp [hvalve])) (.inr (by simp [hcell]))
      (by simp) (by simp)
  · split
    · exact .of_sequencer (Sequencer.steady_of_resting (by simp [hphase]) (by simp [hvalve])) (.inr (by simp [hcell]))
        (by simp) (by simp)
    · obtain ⟨hsteady, hmoved⟩ := State.fetch_steady t hcell hphase hvalve
      refine .of_sequencer hsteady (.inr ⟨by simp [hcell], ?_⟩) (by simp) (by simp)
      obtain hmoved | hmoved | hmoved := hmoved <;> simp [hmoved]

omit h in
@[simp] theorem State.finishWet_sequencer (t : Tag) (g : Segment) (a : ApplicatorId) :
    (s.finishWet t g a).sequencer = { s.sequencer with valve := none, valveStart := none } := by
  simp [State.finishWet]

theorem State.takeSegDone_cellMoves (tag : Byte) (i : Half) : s.CellMoves (s.takeSegDone tag i) := by
  unfold State.takeSegDone
  split
  · exact .refl h
  next t g hnames =>
    obtain ⟨hphase, hsegment⟩ := State.namesSegment_phase hnames
    have hcell := h.flying ((Sequencer.inFlight_iff _).mpr (.inr hphase))
    dsimp only
    split
    next hdry =>
      have hvalve : s.sequencer.valve = none := by
        by_contra hopen
        obtain ⟨a, ha⟩ := Option.ne_none_iff_exists'.mp hopen
        simpa [Sequencer.wetSegment, hsegment, hdry] using (h.valve a ha).2
      refine State.CellMoves.trans (.of_sequencer (Sequencer.steady_of_resting rfl ?_) (.inl ?_) ?_ ?_)
        (State.boundary_cellMoves ?_ rfl ?_ t) <;> simp [hcell, hvalve]
    next a hwet =>
      refine State.CellMoves.trans (.of_sequencer (Sequencer.steady_of_resting rfl ?_) (.inl ?_) ?_ ?_)
        (State.boundary_cellMoves ?_ rfl ?_ t) <;> simp [hcell]

theorem State.takeMotionFault_cellMoves : s.CellMoves s.takeMotionFault := by
  unfold State.takeMotionFault
  split
  next hflight => exact State.abort_cellMoves (.inl (h.flying hflight)) _ _
  · exact .refl h

theorem State.enterBand_cellMoves (a : ApplicatorId) : s.CellMoves (s.enterBand a) := by
  unfold State.enterBand
  split
  · exact .refl h
  next t _ =>
    split
    next hwaits =>
      obtain ⟨hcell, hwet⟩ := hwaits
      obtain ⟨g, hsegment, -⟩ := Option.bind_eq_some_iff.mp hwet
      obtain ⟨hsteady, hrunning⟩ := State.sendSegment_steady (s := s.setCell .running none) t (g := g)
        (by simpa using hsegment) (by simp) (by simpa using (h.grounded (by simp [hcell])).2)
      exact .of_sequencer hsteady (.inr (by simp [hcell, hrunning])) (by simp) (by simp)
    · exact .refl h

theorem State.leaveBand_cellMoves (a : ApplicatorId) : s.CellMoves (s.leaveBand a) := by
  unfold State.leaveBand
  split
  next hopen =>
    have hcell := h.flying ((Sequencer.inFlight_iff _).mpr (.inr (h.valve a hopen.1).1))
    exact State.abort_cellMoves (.inl hcell) _ _
  · exact .refl h

/-- A change of a monitor is none of the cell. -/
theorem State.mapMonitor_cellMoves (a : ApplicatorId) (f : Monitor → Monitor) : s.CellMoves (s.mapMonitor a f) :=
  .of_sequencer (h.congr rfl rfl rfl rfl) (.inl rfl) rfl rfl

theorem State.changeMonitor_cellMoves (a : ApplicatorId) (v : PressureState) (k : Nat) :
    s.CellMoves (s.changeMonitor a v k) := by
  unfold State.changeMonitor
  dsimp only
  split
  · exact .refl h
  · have hentry : s.CellMoves ((s.mapMonitor a fun m => { m with state := v }).append
        (.pressure a v (s.monitor a).state k)) :=
      (State.mapMonitor_cellMoves h a fun m => { m with state := v }).andThen (by simp) (by simp) (by simp)
    split
    · exact hentry.trans (State.enterBand_cellMoves hentry.steady a)
    · split
      · exact hentry.trans (State.leaveBand_cellMoves hentry.steady a)
      · exact hentry

theorem State.takePressure_cellMoves (a : Byte) (p : Half) : s.CellMoves (s.takePressure a p) := by
  unfold State.takePressure
  dsimp only
  split
  · have hstored : s.CellMoves (s.storeSample (Fin.ofNat 4 a.toNat) (min 1023 p.toNat)) := by
      unfold State.storeSample
      exact State.mapMonitor_cellMoves h _ _
    split
    · exact hstored
    · exact hstored.trans (State.changeMonitor_cellMoves hstored.steady _ _ _)
  · exact .refl h

theorem State.takeGuard_cellMoves (g : GuardState) : s.CellMoves (s.takeGuard g) := by
  unfold State.takeGuard
  split
  · exact .refl h
  · have hguard : s.CellMoves (s.mapSequencer fun q => { q with guard := g }) :=
      .of_sequencer (h.congr rfl rfl rfl rfl) (.inl rfl) rfl rfl
    cases g with
    | opened => exact hguard.trans (State.abortActive_cellMoves hguard.steady _)
    | closed => exact hguard.trans (State.leavePaused_cellMoves hguard.steady)

end

/-! ### Frames -/

theorem State.framesIn_eq_countP (s : State) (v : FrameState) :
    s.framesIn v = s.coverage.frames.toList.countP fun e => e.state == v := List.countP_eq_length_filter.symm

theorem State.framesIn_setFrame (s : State) (f : FrameId) (e : FrameEntry) (v : FrameState) :
    (s.setFrame f e).framesIn v ≤ s.framesIn v + if e.state = v then 1 else 0 := by
  simp only [State.framesIn_eq_countP, State.setFrame_coverage, Vector.toList_set]
  rw [List.countP_set (by simp)]
  simp only [beq_iff_eq]
  omega

/-- A frame set to a state it is in, or that is not counted. -/
theorem State.framesIn_setFrame_le (s : State) (f : FrameId) {e : FrameEntry} {v : FrameState}
    (hv : e.state = v → s.coverage.frames[f].state = v) : (s.setFrame f e).framesIn v ≤ s.framesIn v := by
  by_cases hstate : e.state = v
  · simp only [State.framesIn_eq_countP, State.setFrame_coverage, Vector.toList_set]
    rw [List.countP_set (by simp)]
    have hcounted : s.coverage.frames.toList[f.val]'(by simp) ∈ s.coverage.frames.toList := List.getElem_mem _
    have hpos : 0 < s.coverage.frames.toList.countP fun e => e.state == v :=
      List.countP_pos_iff.mpr ⟨_, hcounted, by simpa using hv hstate⟩
    have hold : (s.coverage.frames.toList[f.val]'(by simp)).state = v := by simpa using hv hstate
    simp only [hstate, hold, beq_self_eq_true, if_true]
    omega
  · have hset := s.framesIn_setFrame f e v
    rwa [if_neg hstate, Nat.add_zero] at hset

/-- Frames changed one by one, of which none comes to be counted. -/
theorem framesIn_map {frames : Vector FrameEntry 8} {g : FrameEntry → FrameEntry} {v : FrameState}
    (hg : ∀ e, (g e).state = v → e.state = v) :
    ((frames.map g).toList.filter fun e => e.state == v).length ≤ (frames.toList.filter fun e => e.state == v).length
        := by
  rw [Vector.toList_map, ← List.countP_eq_length_filter, ← List.countP_eq_length_filter, List.countP_map]
  refine List.countP_mono_left fun e _ he => ?_
  simpa using hg e (by simpa using he)


/-! ### The tracker's and the hold manager's operations -/

theorem State.infeed_eq (s : State) : s.tracker.infeedToCell = s.tracker.layout.infeedToCell := rfl

theorem State.outfeed_eq (s : State) : s.tracker.cellToFlash = s.tracker.layout.cellToFlash := rfl

@[simp] theorem Tracker.layout_infeedToCell (k : Tracker) : k.layout.infeedToCell = k.infeedToCell := rfl

@[simp] theorem Tracker.layout_cellToFlash (k : Tracker) : k.layout.cellToFlash = k.cellToFlash := rfl

/-- A change beside the cell, of the lists or of the frames. -/
theorem State.CellMoves.beside {s t : State} (h : s.sequencer.steady) (hsequencer : t.sequencer = s.sequencer)
    (hinfeed : t.tracker.layout.infeedToCell = s.tracker.layout.infeedToCell)
    (houtfeed : t.tracker.layout.cellToFlash = s.tracker.layout.cellToFlash)
    (hframes : ∀ v : FrameState, v = .active ∨ v = .reserved → t.framesIn v ≤ s.framesIn v) : s.CellMoves t :=
  ⟨hsequencer ▸ h, .inl (by rw [hsequencer]), hinfeed.trans, houtfeed.trans, hframes _ (.inl rfl),
      (hframes _ (.inr rfl)).trans⟩

theorem State.framesIn_setFrame_free (s : State) (f : FrameId) {v : FrameState} (hv : v = .active ∨ v = .reserved) :
    (s.setFrame f .free).framesIn v ≤ s.framesIn v :=
  s.framesIn_setFrame_le f fun heq => by obtain rfl | rfl := hv <;> cases heq

theorem State.framesIn_freeOwned (s : State) (t : Tag) {v : FrameState} (hv : v = .active ∨ v = .reserved) :
    (s.freeOwned t).framesIn v ≤ s.framesIn v := by
  unfold State.freeOwned
  split
  · exact le_rfl
  · exact s.framesIn_setFrame_free _ hv

theorem State.framesIn_ownReserved (s : State) (t : Tag) (f : Option FrameId) (v : FrameState) :
    (s.ownReserved t f).framesIn v ≤ s.framesIn v := by
  unfold State.ownReserved
  split
  · exact le_rfl
  · exact s.framesIn_setFrame_le _ fun h => h

theorem State.ownReserved_coverage {s u : State} (hcoverage : u.coverage = s.coverage) (t : Tag) (f : Option FrameId) :
    (u.ownReserved t f).coverage = (s.ownReserved t f).coverage := by
  cases f <;> simp [State.ownReserved, hcoverage]

theorem State.framesIn_retainReserved (s : State) (t : Tag) {v : FrameState} (hv : v = .active ∨ v = .reserved) :
    (s.retainReserved t).framesIn v ≤ s.framesIn v := by
  unfold State.retainReserved
  split
  · exact le_rfl
  · split
    · exact s.framesIn_setFrame_le _ fun heq => by obtain rfl | rfl := hv <;> cases heq
    · exact le_rfl

namespace State.CellMoves

variable {t : State} (h : s.CellMoves t)
include h

theorem append (e : Activity) : s.CellMoves (t.append e) := h.andThen (by simp) (by simp) (by simp)

theorem joinHolds (n : Tag) : s.CellMoves (t.joinHolds n) := h.andThen rfl rfl rfl

theorem driveGate : s.CellMoves t.driveGate := h.andThen (by simp) (by simp) (by simp)

theorem driveLoader : s.CellMoves t.driveLoader := h.andThen (by simp) (by simp) (by simp)

theorem divert : s.CellMoves t.divert := h.andThen (by simp) (by simp) (by simp)

theorem raiseFault (c : FaultCode) (r : Option Route) (n : Option Tag) (k : Nat) : s.CellMoves (t.raiseFault c r n k) :=
  h.trans (State.raiseFault_cellMoves h.steady c r n k)

theorem reportEmpty : s.CellMoves t.reportEmpty := h.trans (State.reportEmpty_cellMoves h.steady)

end State.CellMoves

section

variable (h : s.sequencer.steady)
include h

theorem State.takeArrival_cellMoves (serial : Option Serial) : s.CellMoves (s.takeArrival serial) := by
  have reported (e : Activity) : s.CellMoves (s.append e) := .of_eq h (by simp) (by simp) (by simp)
  unfold State.takeArrival
  dsimp only
  split
  · split
    · exact reported _
    · split
      · exact reported _
      next a _ =>
        split
        · exact .refl h
        next t _ _ =>
          refine .beside h (by simp [State.matchArrival]) ?_ ?_ fun v _ => ?_
          · simp [State.matchArrival]
          · simp [State.matchArrival]
          · refine le_trans (State.framesIn_of_coverage ?_ v) (State.framesIn_ownReserved _ t a.frame v)
            simp only [State.matchArrival, State.startVerification_keeps, State.append_keeps, State.driveLoader_keeps,
              State.mapTracker_keeps]
            exact State.ownReserved_coverage (by simp) t a.frame
  · exact reported _

theorem State.enterOven_cellMoves (n : Tag) : s.CellMoves (s.enterOven n) :=
  .beside h (by simp) (by simp [State.enterOven]) (by simp [State.enterOven])
    fun v _ => State.framesIn_of_coverage (by simp) v

theorem State.takeEntrySeen_cellMoves : s.CellMoves s.takeEntrySeen := by
  unfold State.takeEntrySeen
  split
  · exact State.enterOven_cellMoves h _
  · exact State.raiseFault_cellMoves h _ _ _ _
  · exact State.raiseFault_cellMoves h _ _ _ _

theorem State.exitToCool_cellMoves (n : Tag) : s.CellMoves (s.exitToCool n) := by
  refine .beside h (by simp) ?_ ?_ fun v _ => State.framesIn_of_coverage (by simp) v
  all_goals
    unfold State.exitToCool
    dsimp only
    split <;> simp

theorem State.assertStop_cellMoves : s.CellMoves s.assertStop := .of_eq h (by simp) (by simp) (by simp)

theorem State.exitOverrun_cellMoves (n : Tag) : s.CellMoves (s.exitOverrun n) := by
  have hheld : s.CellMoves (s.modifyRecord n fun b => (b.addReason .exitOverrun).hold .none s.lineTime) :=
    .of_eq h (by simp) (by simp) (by simp)
  unfold State.exitOverrun
  dsimp only
  have hstopped := hheld.trans (State.assertStop_cellMoves hheld.steady)
  exact ((((hstopped.append _).joinHolds n).append _).raiseFault _ _ _ _).reportEmpty

theorem State.takeExitSeen_cellMoves : s.CellMoves s.takeExitSeen := by
  unfold State.takeExitSeen
  split
  · exact State.raiseFault_cellMoves h _ _ _ _
  next n l _ =>
    dsimp only
    have hjudged : s.CellMoves ((s.mapCure fun c => { c with oven := l }).modifyRecord n
        (BoardRecord.judgeExit s.oven (s.boardCoating n) s.lineTime)) := .of_eq h (by simp) (by simp) (by simp)
    split
    · exact hjudged.trans (State.exitToCool_cellMoves hjudged.steady n)
    · exact hjudged.trans (State.exitOverrun_cellMoves hjudged.steady n)

end

/-! ### Transfers -/

/-- The law of the cell, and that of the frames where `F` asks for it: the cell's law does not rest on the frames'. -/
structure State.cellFrameLaw (s : State) (F : Prop) : Prop where
  cell : s.cellLaw
  frame : F → s.frameLaw

variable {F : Prop}

theorem State.cellFrameLaw.steady {s : State} (h : s.cellFrameLaw F) : s.sequencer.steady := h.cell.steady

theorem State.CellMoves.law {s t : State} (h : s.CellMoves t) (hs : s.cellFrameLaw F) : t.cellFrameLaw F :=
  ⟨h.cellLaw hs.cell, fun hF => h.frameLaw (hs.frame hF)⟩

/-- With the routes into and out of the cell IDLE, a steady sequencer keeps the cell's law. -/
theorem State.cellLaw_of_idle {s : State} (h : s.sequencer.steady) (hinfeed : s.tracker.infeedToCell = .idle)
    (houtfeed : s.tracker.cellToFlash = .idle) : s.cellLaw :=
  ⟨h.flying, h.waiting, h.valve, fun hroute => absurd hinfeed hroute, fun hroute => absurd houtfeed hroute⟩

theorem Tracker.setRoute_infeed (k : Tracker) (r : Route) (v : RouteState) :
    (k.setRoute r v).infeedToCell = if r = .infeedToCell then v else k.infeedToCell := by
  cases r <;> rfl

theorem Tracker.setRoute_outfeed (k : Tracker) (r : Route) (v : RouteState) :
    (k.setRoute r v).cellToFlash = if r = .cellToFlash then v else k.cellToFlash := by
  cases r <;> rfl

@[simp] theorem Tracker.setSource_infeed (k : Tracker) (r : Route) (l : List Place) :
    (k.setSource r l).infeedToCell = k.infeedToCell := by
  cases r <;> rfl

@[simp] theorem Tracker.setSource_outfeed (k : Tracker) (r : Route) (l : List Place) :
    (k.setSource r l).cellToFlash = k.cellToFlash := by
  cases r <;> rfl

/-- A route changed that was not IDLE, or that becomes IDLE. -/
theorem State.CellMoves.of_route {s t : State} (h : s.sequencer.steady) (hsequencer : t.sequencer = s.sequencer)
    (hcoverage : t.coverage = s.coverage) {k : Tracker} {r : Route} {v : RouteState}
    (hk : k.infeedToCell = s.tracker.infeedToCell ∧ k.cellToFlash = s.tracker.cellToFlash)
    (htracker : t.tracker = k.setRoute r v) (hv : v = .idle ∨ s.tracker.route r ≠ .idle) : s.CellMoves t := by
  refine ⟨hsequencer ▸ h, .inl (by rw [hsequencer]), ?_, ?_, State.framesIn_of_coverage hcoverage _,
    (State.framesIn_of_coverage hcoverage _).trans⟩
  · intro hidle
    rw [htracker, Tracker.setRoute_infeed, hk.1]
    split
    next hr => exact hv.elim id fun hbusy => absurd (by rw [hr]; exact hidle) hbusy
    · exact hidle
  · intro hidle
    rw [htracker, Tracker.setRoute_outfeed, hk.2]
    split
    next hr => exact hv.elim id fun hbusy => absurd (by rw [hr]; exact hidle) hbusy
    · exact hidle

theorem State.endTransfer_cellMoves {s : State} (h : s.sequencer.steady) (r : Route) : s.CellMoves (s.endTransfer r) :=
  .of_route h (by simp) (by simp) (k := s.tracker.setSource r (s.tracker.source r).tail) (by simp) rfl (.inl rfl)

theorem State.failTransfer_cellMoves {s : State} (h : s.sequencer.steady) {r : Route} (hr : s.tracker.route r ≠ .idle)
    (cause : Nat) : s.CellMoves (s.failTransfer r cause) := by
  have hroute : s.CellMoves (s.mapTracker fun k => k.setRoute r .faulted) :=
    .of_route h rfl rfl ⟨rfl, rfl⟩ rfl (.inr hr)
  exact hroute.raiseFault _ _ _ _

theorem State.startRoute_tracker (s : State) (r : Route) (t : Tag) : ∃ slot, (s.startRoute r t).tracker =
    (s.tracker.setSource r (markHead (s.tracker.source r))).setRoute r
      (.inFlight (s.lineTime + Config.transferTime) slot) := by
  cases hslot : s.slotFor r with
  | none =>
    refine ⟨0, ?_⟩
    simp only [State.startRoute, hslot, State.driveGate_keeps]
    split <;> simp [State.beginTransfer]
  | some n =>
    refine ⟨slotOperand n, ?_⟩
    simp only [State.startRoute, hslot, State.driveGate_keeps]
    split <;> simp [State.beginTransfer]

theorem State.startRoute_sequencer (s : State) (r : Route) (t : Tag) : (s.startRoute r t).sequencer =
    if r = .infeedToCell then { s.sequencer with cell := .loading } else s.sequencer := by
  unfold State.startRoute
  dsimp only
  split <;> split <;> simp

theorem State.startRoute_coverage (s : State) (r : Route) (t : Tag) : (s.startRoute r t).coverage = s.coverage := by
  simp

/-- A route that can start is IDLE, its conditions hold, and the head of its list is not on its way (R16). -/
theorem State.startable_spec {s : State} {r : Route} {t : Tag} (h : s.startable r = some t) :
    s.tracker.route r = .idle ∧ s.carried r = some t ∧ s.routeCondition r t = true := by
  unfold State.startable at h
  split at h
  next hidle =>
    split at h
    · cases h
    next hcarried =>
      split at h
      next hcondition =>
        cases h
        exact ⟨hidle, hcarried, hcondition⟩
      · cases h
  · cases h

theorem State.frameLaw_of_coverage {s t : State} (h : s.frameLaw) (hcoverage : t.coverage = s.coverage)
    (hcell : t.sequencer.cell = .idle ∨ t.sequencer.cell = .loading →
      s.sequencer.cell = .idle ∨ s.sequencer.cell = .loading) : t.frameLaw := by
  obtain ⟨hactive, hunused, hreserved⟩ := h
  refine ⟨?_, fun hcase => ?_, ?_⟩
  · simpa only [State.activeFrames, hcoverage] using hactive
  · simpa only [State.activeFrames, hcoverage] using hunused (hcell hcase)
  · simpa only [State.reservedFrames, hcoverage] using hreserved

/-- A transfer that starts: into the cell it leaves IDLE for LOADING, and out of it the cell is UNLOADING. -/
theorem State.startRoute_law {s : State} (hs : s.cellFrameLaw F) {r : Route} {t : Tag}
    (hstart : s.startable r = some t) :
    (s.startRoute r t).cellFrameLaw F := by
  obtain ⟨-, -, hcondition⟩ := State.startable_spec hstart
  obtain ⟨slot, htracker⟩ := s.startRoute_tracker r t
  have hsequencer := s.startRoute_sequencer r t
  have hcoverage := s.startRoute_coverage r t
  by_cases hinto : r = .infeedToCell
  · have hcell : s.sequencer.cell = .idle := by
      simp only [hinto, State.routeCondition, Bool.and_eq_true, beq_iff_eq] at hcondition
      exact hcondition.1.1
    have houtfeed : s.tracker.cellToFlash = .idle := by
      by_contra hroute
      simpa [hcell] using hs.cell.outfeed hroute
    rw [if_pos hinto] at hsequencer
    obtain ⟨hphase, hvalve⟩ := hs.steady.resting (by simp [hcell]) (by simp [hcell]) (by simp [hcell])
    obtain ⟨hflying, hwaiting, hopen⟩ : (s.startRoute r t).sequencer.steady :=
      Sequencer.steady_of_resting (by simp [hsequencer, hphase]) (by simp [hsequencer, hvalve])
    refine ⟨⟨hflying, hwaiting, hopen, fun _ => by simp [hsequencer], fun hroute => ?_⟩,
      fun hF => State.frameLaw_of_coverage (hs.frame hF) hcoverage fun _ => .inl hcell⟩
    rw [htracker, Tracker.setRoute_outfeed, hinto] at hroute
    exact absurd (by simpa using houtfeed) hroute
  · rw [if_neg hinto] at hsequencer
    obtain ⟨hflying, hwaiting, hopen⟩ : (s.startRoute r t).sequencer.steady := hsequencer ▸ hs.steady
    refine ⟨⟨hflying, hwaiting, hopen, fun hroute => ?_, fun hroute => ?_⟩,
      fun hF => State.frameLaw_of_coverage (hs.frame hF) hcoverage (by rw [hsequencer]; exact id)⟩
    · rw [htracker, Tracker.setRoute_infeed, if_neg hinto, Tracker.setSource_infeed] at hroute
      rw [hsequencer]
      exact hs.cell.infeed hroute
    · rw [hsequencer]
      by_cases hout : r = .cellToFlash
      · simp only [hout, State.routeCondition, Bool.and_eq_true, beq_iff_eq] at hcondition
        exact hcondition.1.1
      · rw [htracker, Tracker.setRoute_outfeed, if_neg hout, Tracker.setSource_outfeed] at hroute
        exact hs.cell.outfeed hroute

/-! ### Transfers that complete -/

theorem State.framesIn_takeFrame (s : State) (f : FrameId) (n : Tag) (v : FrameState) :
    (s.takeFrame f n).framesIn v ≤ s.framesIn v + if v = .active then 1 else 0 := by
  refine (State.framesIn_of_coverage (t := s.takeFrame f n)
    (s := (s.zeroCells f fun _ => true).setFrame f ⟨.active, some n, some (s.record n).pass⟩)
    (by simp [State.takeFrame]) v).trans ?_
  refine (State.framesIn_setFrame _ f _ v).trans ?_
  simp only [eq_comm (a := FrameState.active)]
  exact Nat.add_le_add_right (State.framesIn_of_coverage (by simp) v) _

/-- Spray start makes one frame ACTIVE at most. -/
theorem State.framesIn_allocate (s : State) (n : Tag) (v : FrameState) :
    (s.allocate n).framesIn v ≤ s.framesIn v + if v = .active then 1 else 0 := by
  unfold State.allocate
  split
  next f _ =>
    refine (State.framesIn_setFrame s f _ v).trans ?_
    simp only [eq_comm (a := FrameState.active)]
    exact le_rfl
  · split
    · exact s.framesIn_takeFrame _ n v
    · split
      next o f _ =>
        refine (State.framesIn_of_coverage (by simp) v).trans
          (((s.modifyRecord o fun b => { b with mapFrame := none }).framesIn_takeFrame f n v).trans ?_)
        exact Nat.add_le_add_right (State.framesIn_of_coverage (by simp) v) _
      · exact Nat.le_add_right _ _

/-- A spray start from rest leaves the cell STOPPED, PAUSED, RUNNING, INTERLOCKED or UNLOADING. -/
theorem State.sprayStart_steady {s : State} (hvalve : s.sequencer.valve = none) (n : Tag) :
    (s.sprayStart n).sequencer.steady ∧ (s.sprayStart n).sequencer.cell ≠ .idle ∧
      (s.sprayStart n).sequencer.cell ≠ .loading := by
  unfold State.sprayStart
  dsimp only
  have hrest : (((s.mapSequencer fun q => { q with index := 0, segment := none, phase := .none
      }).modifyRecord n fun b => { b with sprayStart := some s.lineTime }).allocate n).sequencer =
        { s.sequencer with index := 0, segment := none, phase := .none } := by simp
  split
  · exact ⟨Sequencer.steady_of_resting (by simp) (by simp [hvalve]), by simp, by simp⟩
  · exact ⟨Sequencer.steady_of_resting (by simp) (by simp [hvalve]), by simp, by simp⟩
  · split
    · refine And.imp_right (fun hcell => ?_) (State.fetch_steady n ?_ ?_ ?_)
      · obtain hcell | hcell | hcell := hcell <;> simp [hcell]
      · simp
      · simp
      · simpa using hvalve
    · exact ⟨Sequencer.steady_of_resting (by simp) (by simp [hvalve]), by simp, by simp⟩

theorem State.framesIn_sprayStart (s : State) (n : Tag) (v : FrameState) :
    (s.sprayStart n).framesIn v ≤ s.framesIn v + if v = .active then 1 else 0 := by
  refine (State.framesIn_of_coverage (s := ((s.mapSequencer fun q =>
      { q with index := 0, segment := none, phase := .none
      }).modifyRecord n fun b => { b with sprayStart := some s.lineTime }).allocate n) ?_ v).trans
    ((State.framesIn_allocate _ n v).trans (Nat.add_le_add_right (State.framesIn_of_coverage (by simp) v) _))
  unfold State.sprayStart
  dsimp only
  (repeat' split) <;> simp

/-- A board that enters the cell: the cell leaves LOADING, where no frame is ACTIVE. -/
theorem State.doneInfeedToCell_law {s : State} (hs : s.cellFrameLaw F) (hcell : s.sequencer.cell = .loading)
    (hinfeed : s.tracker.infeedToCell = .idle) (n : Tag) : (s.doneInfeedToCell n).cellFrameLaw F := by
  have houtfeed : s.tracker.cellToFlash = .idle := by
    by_contra hroute
    simpa [hcell] using hs.cell.outfeed hroute
  have hvalve := (hs.steady.grounded (by simp [hcell])).2
  have hframes (v : FrameState) : (s.doneInfeedToCell n).framesIn v ≤ s.framesIn v + if v = .active then 1 else 0 :=
    (State.framesIn_sprayStart _ n v).trans (Nat.add_le_add_right (State.framesIn_of_coverage (by simp) v) _)
  obtain ⟨hsteady, hidle, hloading⟩ := State.sprayStart_steady (s := (s.mapTracker fun k =>
    { k with cell := joinTail k.cell n }).modifyRecord n fun b => { b with stage := .spraying })
        (by simpa using hvalve) n
  refine ⟨State.cellLaw_of_idle hsteady ?_ ?_, fun hF => ⟨?_, fun hunused => (hunused.elim hidle hloading).elim, ?_⟩⟩
  · rw [State.infeed_eq]
    simpa [State.doneInfeedToCell] using hinfeed
  · rw [State.outfeed_eq]
    simpa [State.doneInfeedToCell] using houtfeed
  · have hactive := hframes .active
    have hnone := (hs.frame hF).unused (.inr hcell)
    rw [State.activeFrames_eq] at hnone ⊢
    simpa [hnone] using hactive
  · have hreserved := hframes .reserved
    exact hreserved.trans (by simpa [State.reservedFrames_eq] using (hs.frame hF).reserved)

theorem State.framesIn_retainActive (s : State) {v : FrameState} (hv : v = .active ∨ v = .reserved) :
    s.retainActive.framesIn v ≤ s.framesIn v := by
  refine framesIn_map fun e he => ?_
  unfold FrameEntry.retain at he
  split at he
  · obtain rfl | rfl := hv <;> cases he
  · exact he

theorem State.framesIn_retainActive_active (s : State) : s.retainActive.framesIn .active = 0 := by
  have hnone : ∀ e ∈ (s.coverage.frames.map FrameEntry.retain).toList, ¬(e.state == FrameState.active) = true := by
    intro e he
    simp only [Vector.toList_map, List.mem_map] at he
    obtain ⟨e, -, rfl⟩ := he
    unfold FrameEntry.retain
    split
    · simp
    next hstate => simpa using hstate
  rw [State.framesIn, List.length_eq_zero_iff]
  exact List.filter_eq_nil_iff.mpr hnone

/-- A board that leaves the cell: the cell leaves UNLOADING for IDLE, and no frame stays ACTIVE. -/
theorem State.doneCellToFlash_law {s : State} (hs : s.cellFrameLaw F) (hcell : s.sequencer.cell = .unloading)
    (houtfeed : s.tracker.cellToFlash = .idle) (n : Tag) : (s.doneCellToFlash n).cellFrameLaw F := by
  have hinfeed : s.tracker.infeedToCell = .idle := by
    by_contra hroute
    simpa [hcell] using hs.cell.infeed hroute
  obtain ⟨hphase, hvalve⟩ := hs.steady.resting (by simp [hcell]) (by simp [hcell]) (by simp [hcell])
  have hsequencer : (s.doneCellToFlash n).sequencer = { s.sequencer with index := 0, cell := .idle } := by
    simp [State.doneCellToFlash]
  have hframes (v : FrameState) : (s.doneCellToFlash n).framesIn v ≤ s.retainActive.framesIn v :=
    State.framesIn_of_coverage (by simp [State.doneCellToFlash, State.retainActive]) v
  have hactive : (s.doneCellToFlash n).activeFrames = 0 :=
    Nat.le_zero.mp ((hframes .active).trans s.framesIn_retainActive_active.le)
  refine ⟨State.cellLaw_of_idle (Sequencer.steady_of_resting ?_ ?_) ?_ ?_, fun hF => ⟨hactive.le.trans (Nat.zero_le 1),
    fun _ => hactive, (hframes .reserved).trans
      ((s.framesIn_retainActive (.inr rfl)).trans (hs.frame hF).reserved)⟩⟩
  · simp [hsequencer, hphase]
  · simp [hsequencer, hvalve]
  · simpa [State.doneCellToFlash] using hinfeed
  · simpa [State.doneCellToFlash] using houtfeed

/-- The transfers that neither enter nor leave the cell. -/
theorem State.completeRoute_cellMoves {s : State} (h : s.sequencer.steady) {r : Route}
    (hr : r ≠ .infeedToCell ∧ r ≠ .cellToFlash) (n : Tag) (slot : Nat) : s.CellMoves (s.completeRoute r n slot) := by
  cases r with
  | maskToInfeed =>
    refine .beside h ?_ ?_ ?_ fun v _ => State.framesIn_of_coverage ?_ v <;>
      simp [State.completeRoute, State.doneMaskToInfeed]
  | maskToLane =>
    simp only [State.completeRoute, State.doneMaskToLane]
    refine State.CellMoves.reportEmpty (State.CellMoves.driveLoader (.beside h ?_ ?_ ?_ fun v hv => ?_))
    · simp
    · simp
    · simp
    · have hretained := (((s.modifyRecord n (BoardRecord.hold (.slot (slotOfOperand .maskToLane slot))
        s.lineTime)).setSlot
        (slotOfOperand .maskToLane slot) (.assigned n)).joinHolds n).framesIn_retainReserved n hv
      exact (State.framesIn_of_coverage (by simp) v).trans
        (hretained.trans (State.framesIn_of_coverage (by simp) v))
  | infeedToCell => exact absurd rfl hr.1
  | cellToFlash => exact absurd rfl hr.2
  | coolToExit =>
    simp only [State.completeRoute, State.doneCoolToExit]
    have hfreed : s.CellMoves ((s.freeOwned n).modifyRecord n BoardRecord.release) := by
      refine .beside h (by simp) (by simp) (by simp) fun v hv => ?_
      exact (State.framesIn_of_coverage (by simp) v).trans (s.framesIn_freeOwned n hv)
    exact (hfreed.append _).divert.driveGate.driveLoader.reportEmpty
  | coolToSpur =>
    simp only [State.completeRoute, State.doneCoolToSpur]
    have hheld : s.CellMoves (((s.modifyRecord n (BoardRecord.hold (.slot (slotOfOperand .coolToSpur slot))
        s.lineTime)).setSlot
        (slotOfOperand .coolToSpur slot) (.assigned n)).joinHolds n) := .of_eq h (by simp) (by simp) (by simp)
    exact (hheld.append _).divert.driveGate.reportEmpty

theorem State.takeTransferDone_law {s : State} (hs : s.cellFrameLaw F) (r : Route) :
    (s.takeTransferDone r).cellFrameLaw F := by
  have hended := s.endTransfer_cellMoves hs.steady r
  unfold State.takeTransferDone
  split
  next hflight =>
    split
    · exact hended.law hs
    next n _ =>
      by_cases hinto : r = .infeedToCell
      · subst hinto
        have hcell := hs.cell.infeed (by rw [show s.tracker.infeedToCell = _ from hflight]; simp)
        exact State.doneInfeedToCell_law (hended.law hs) (by simpa using hcell) rfl n
      · by_cases hout : r = .cellToFlash
        · subst hout
          have hcell := hs.cell.outfeed (by rw [show s.tracker.cellToFlash = _ from hflight]; simp)
          exact State.doneCellToFlash_law (hended.law hs) (by simpa using hcell) rfl n
        · exact (hended.trans (State.completeRoute_cellMoves hended.steady ⟨hinto, hout⟩ n _)).law hs
  · exact hs

/-! ### The line clear and the resets -/

theorem State.cellFrameLaw.beside {s t : State} (hs : s.cellFrameLaw F) (hsequencer : t.sequencer = s.sequencer)
    (hlayout : t.tracker.layout = s.tracker.layout) (hcoverage : t.coverage = s.coverage) : t.cellFrameLaw F :=
  (State.CellMoves.of_eq hs.steady hsequencer hlayout hcoverage).law hs

/-- A part at rest: the routes into and out of the cell IDLE, the cell IDLE, and no frame ACTIVE. -/
theorem State.cellFrameLaw_of_rest {s : State} (hphase : s.sequencer.phase = .none) (hvalve : s.sequencer.valve = none)
    (hinfeed : s.tracker.infeedToCell = .idle) (houtfeed : s.tracker.cellToFlash = .idle)
    (hactive : s.framesIn .active = 0) (hreserved : F → s.framesIn .reserved ≤ 4) : s.cellFrameLaw F :=
  ⟨State.cellLaw_of_idle (Sequencer.steady_of_resting hphase hvalve) hinfeed houtfeed,
    fun hF => ⟨by rw [State.activeFrames_eq, hactive]; exact Nat.zero_le 1, fun _ => hactive, hreserved hF⟩⟩

/-- A change beside the cell, of the lists or of the frames. -/
theorem State.cellFrameLaw.besideFrames {s t : State} (hs : s.cellFrameLaw F) (hsequencer : t.sequencer = s.sequencer)
    (hinfeed : t.tracker.layout.infeedToCell = s.tracker.layout.infeedToCell)
    (houtfeed : t.tracker.layout.cellToFlash = s.tracker.layout.cellToFlash)
    (hframes : ∀ v : FrameState, v = .active ∨ v = .reserved → t.framesIn v ≤ s.framesIn v) : t.cellFrameLaw F :=
  (State.CellMoves.beside hs.steady hsequencer hinfeed houtfeed hframes).law hs

theorem State.framesIn_clearFrames_active (s : State) : s.clearFrames.framesIn .active = 0 := by
  have hnone : ∀ e ∈ (s.coverage.frames.map FrameEntry.clear).toList, ¬(e.state == FrameState.active) = true := by
    intro e he
    simp only [Vector.toList_map, List.mem_map] at he
    obtain ⟨e, -, rfl⟩ := he
    unfold FrameEntry.clear
    split
    · simp
    · simp
    next hother _ => simpa using fun hactive => hother hactive
  rw [State.framesIn, List.length_eq_zero_iff]
  exact List.filter_eq_nil_iff.mpr hnone

theorem State.framesIn_clearFrames_reserved (s : State) :
    s.clearFrames.framesIn .reserved ≤ s.framesIn .reserved := by
  refine framesIn_map fun e he => ?_
  unfold FrameEntry.clear at he
  split at he
  · cases he
  · cases he
  · exact he

theorem State.clearCell_sequencer (s : State) :
    s.clearCell.sequencer.phase = .none ∧ s.clearCell.sequencer.valve = none ∧ s.clearCell.sequencer.cell = .idle := by
  unfold State.clearCell
  dsimp only
  split
  next hcell => exact ⟨rfl, rfl, hcell⟩
  · simp

theorem foldClearBoard_coverage (s : State) (l : List Tag) : (l.foldl State.clearBoard s).coverage = s.coverage :=
  foldl_keeps (·.coverage) _ (fun _ _ => by simp [State.clearBoard]) s l

/-- The line clear up to its change of the mode. -/
def State.clearedLine (s : State) : State :=
  let s1 := { s with verifier := Verifier.reset }
  let s3 := (s1.transportTags.foldl State.clearBoard s1).clearFrames.clearLists.clearSlots.clearCell.clearOven
  { s3 with line := { s3.line with firstFault := none } }

theorem State.clearLine_eq (s : State) : s.clearLine = s.clearedLine.changeMode .ready := rfl

theorem State.clearLine_law {s : State} (hs : s.cellFrameLaw F) : s.clearLine.cellFrameLaw F := by
  have hcoverage (u : State) : u.clearLists.clearSlots.clearCell.clearOven.coverage = u.coverage := by
    simp [State.clearLists]
  have hcleared : s.clearedLine.cellFrameLaw F := by
    unfold State.clearedLine
    dsimp only
    generalize hfold : ({ s with verifier := Verifier.reset } : State).transportTags.foldl State.clearBoard
      { s with verifier := Verifier.reset } = u
    have hframes (hF : F) : u.framesIn .reserved ≤ 4 := by
      refine (State.framesIn_of_coverage ?_ _).trans (hs.frame hF).reserved
      rw [← hfold]
      exact foldClearBoard_coverage _ _
    obtain ⟨hphase, hvalve, -⟩ := u.clearFrames.clearLists.clearSlots.clearCell_sequencer
    refine State.cellFrameLaw_of_rest ?_ ?_ ?_ ?_ ?_ ?_
    · simpa using hphase
    · simpa using hvalve
    · simp [State.clearLists, Tracker.reset]
    · simp [State.clearLists, Tracker.reset]
    · exact Nat.le_zero.mp ((State.framesIn_of_coverage (hcoverage _) _).trans u.framesIn_clearFrames_active.le)
    · exact fun hF =>
        (State.framesIn_of_coverage (hcoverage _) _).trans (u.framesIn_clearFrames_reserved.trans (hframes hF))
  rw [State.clearLine_eq]
  exact (State.changeMode_cellMoves hcleared.steady .ready).law hcleared

theorem rebuiltFrame_state (boards : Vector BoardRecord 32) (f : FrameId) :
    (rebuiltFrame boards f).state = .free ∨ (rebuiltFrame boards f).state = .retained := by
  unfold rebuiltFrame
  split
  · exact .inl rfl
  · exact .inr rfl

theorem State.framesIn_convert (s : State) {v : FrameState} (hv : v = .active ∨ v = .reserved) :
    s.convert.framesIn v = 0 := by
  have hnone : ∀ e ∈ (Vector.ofFn (rebuiltFrame (s.tracker.boards.map BoardRecord.restart))).toList,
      ¬(e.state == v) = true := by
    intro e he
    obtain ⟨f, rfl⟩ := by simpa using he
    obtain rfl | rfl := hv <;> obtain h | h := rebuiltFrame_state (s.tracker.boards.map BoardRecord.restart) f <;>
      simp [h]
  rw [State.framesIn, List.length_eq_zero_iff]
  exact List.filter_eq_nil_iff.mpr hnone

theorem State.beginRestart_law (s : State) (kind : ResetKind) : (s.beginRestart kind).cellFrameLaw F := by
  have converted (u : State) (e : Activity) : (u.convert.append e).cellFrameLaw F := by
    have hframes {v : FrameState} (hv : v = .active ∨ v = .reserved) : (u.convert.append e).framesIn v = 0 :=
      Nat.le_zero.mp ((State.framesIn_of_coverage (by simp) v).trans (u.framesIn_convert hv).le)
    refine State.cellFrameLaw_of_rest ?_ ?_ ?_ ?_ (hframes (.inl rfl)) fun _ => by
      rw [hframes (.inr rfl)]; exact Nat.zero_le 4
    all_goals
      simp only [State.append_keeps]
      rfl
  cases kind <;> exact converted _ _

theorem State.resetBy_law {s : State} (hs : s.cellFrameLaw F) (cause : ResetKind) (extent : ResetExtent) :
    (s.resetBy cause extent).cellFrameLaw F := by
  cases extent with
  | held => exact hs.beside rfl rfl rfl
  | restart visits =>
    have hbegun := State.beginRestart_law (F := F) (s.noteCause cause) (s.resetKind cause)
    exact hbegun.beside (by simp [State.resetBy]) (by simp [State.resetBy]) (by simp [State.resetBy])

/-! ### The events -/

theorem State.Delivers.cellFrameLaw {s t : State} (h : s.Delivers t) (hs : s.cellFrameLaw F) : t.cellFrameLaw F := by
  have hsteady := hs.steady
  cases h with
  | ignored => exact hs
  | segStarted tag index => exact (State.takeSegStarted_cellMoves hsteady tag index).law hs
  | segDone tag index => exact (State.takeSegDone_cellMoves hsteady tag index).law hs
  | motionFault => exact (State.takeMotionFault_cellMoves hsteady).law hs
  | pressure applicator kPa => exact (State.takePressure_cellMoves hsteady applicator kPa).law hs
  | arrival serial => exact (State.takeArrival_cellMoves hsteady serial).law hs
  | maskResult | slotState | ovenSample =>
    exact hs.beside (by simp) (by simp) (by simp)
  | transferDone r => exact State.takeTransferDone_law hs r
  | transferFault r =>
    unfold State.takeTransferFault
    split
    next hflight => exact (State.failTransfer_cellMoves hsteady (by simp [hflight]) 1).law hs
    · exact hs
  | guard g => exact (State.takeGuard_cellMoves hsteady g).law hs
  | entrySeen => exact (State.takeEntrySeen_cellMoves hsteady).law hs
  | exitSeen => exact (State.takeExitSeen_cellMoves hsteady).law hs

theorem State.Acts.cellFrameLaw {s t : State} (h : s.Acts t) (hs : s.cellFrameLaw F) : t.cellFrameLaw F := by
  have hsteady := hs.steady
  cases h with
  | nothing => exact hs
  | tick | flashOff | transmit => exact hs.beside rfl rfl rfl
  | verification | flashOffHead | openTime | recoatExpired =>
    exact hs.beside (by simp) (by simp) (by simp)
  | transferStart hstart => exact State.startRoute_law hs hstart
  | transferDeadline hflight => exact (State.failTransfer_cellMoves hsteady (by simp [hflight]) 2).law hs
  | segmentDeadline hflight => exact (State.abort_cellMoves (.inl (hsteady.flying hflight)) _ _).law hs
  | pressureSilence a sample =>
    have hmonitor := State.mapMonitor_cellMoves hsteady a fun m => { m with silence := none }
    exact (hmonitor.trans (State.changeMonitor_cellMoves hmonitor.steady _ _ _)).law hs
  | ovenSilent =>
    refine hs.beside ?_ ?_ ?_
    all_goals
      simp [foldRecords_keeps (fun _ _ => BoardRecord.addReason .cureUnverified),
        foldRecords_layout _ (fun _ _ => BoardRecord.addReason .cureUnverified)]

theorem State.framesIn_reserveFrame (s : State) (f : Option FrameId) (pass : Nat) (v : FrameState) :
    (s.reserveFrame f pass).framesIn v ≤ s.framesIn v + if v = .reserved then 1 else 0 := by
  unfold State.reserveFrame
  split
  · exact Nat.le_add_right _ _
  · refine (State.framesIn_setFrame s _ _ v).trans ?_
    simp only [eq_comm (a := FrameState.reserved)]
    exact le_rfl

/-- A recoat reserves one frame more, where fewer than four are RESERVED (R162, R163). -/
theorem State.recoat_cellMoves {s : State} (h : s.sequencer.steady) (hroom : s.reservedFrames < 4) (n : Tag) :
    s.CellMoves (s.recoat n).1 := by
  have hframes (v : FrameState) : (s.recoat n).1.framesIn v ≤ s.framesIn v + if v = .reserved then 1 else 0 :=
    (State.framesIn_of_coverage (by simp [State.recoat]) v).trans
      ((State.framesIn_reserveFrame (s.mapTracker fun k => { k with admissions := k.admissions ++
        [⟨(s.record n).serial, (s.record n).recipe, (s.record n).pass + 1, (s.record n).mapFrame⟩] })
        (s.record n).mapFrame ((s.record n).pass + 1) v).trans le_rfl)
  have hsequencer : (s.recoat n).1.sequencer = s.sequencer := by simp [State.recoat]
  refine ⟨hsequencer ▸ h, .inl (by rw [hsequencer]), ?_, ?_, hframes .active, fun _ => ?_⟩
  · rw [State.infeed_eq, State.infeed_eq]
    simp [State.recoat]
  · rw [State.outfeed_eq, State.outfeed_eq]
    simp [State.recoat]
  · have hreserved := hframes .reserved
    rw [State.reservedFrames_eq] at hroom
    simp only [if_true] at hreserved
    omega

theorem State.disposeOf_cellMoves {s : State} (h : s.sequencer.steady) (a : Action) (n : Tag) :
    s.CellMoves (s.disposeOf a n).1 := by
  refine .beside h ?_ ?_ ?_ fun v hv => (State.framesIn_of_coverage ?_ v).trans (s.framesIn_freeOwned n hv) <;>
    simp [State.disposeOf]

theorem Instr.cardEffect_cellFrameLaw {i : Instr} {apply : TakenCard → State → State × CardResult}
    (hi : Instr.cardEffect i = some apply) (c : TakenCard) {s : State} (hs : s.cellFrameLaw F) :
    (apply c s).1.cellFrameLaw F := by
  have hsteady := hs.steady
  have judged {checks : List Check} {effect : State → State × CardResult}
      (heffect : allPass checks → (effect s).1.cellFrameLaw F) : (judge checks effect s).1.cellFrameLaw F :=
    judge_induct (P := fun t => t.cellFrameLaw F) hs heffect
  cases i <;> cases hi
  case refusedKind => exact hs
  case applicatorLoad | coatingLoad | patchClear => exact judged fun _ => hs.beside rfl rfl rfl
  case recipeLoad | ovenLoad => exact judged fun _ => hs.beside (by simp) (by simp) (by simp)
  case pathLoad =>
    refine judged fun _ => ?_
    unfold State.loadChunk
    dsimp only
    split <;> exact hs.beside rfl rfl rfl
  case patchSet =>
    refine judged fun _ => ?_
    split
    · exact hs
    · exact hs.beside rfl rfl rfl
  case admitCard =>
    exact judged fun _ => hs.besideFrames rfl rfl rfl fun v _ => le_rfl
  case withdrawCard =>
    refine judged fun _ => ?_
    split
    · exact hs
    · dsimp only
      split
      · exact hs.besideFrames rfl rfl rfl fun v _ => le_rfl
      · exact hs.besideFrames rfl rfl rfl fun v hv => State.framesIn_setFrame_free _ _ hv
  case disposeRelease | disposeScrap => exact judged fun _ => (State.disposeOf_cellMoves hsteady _ _).law hs
  case disposeRecoat =>
    refine judged fun hpass => (State.recoat_cellMoves hsteady ?_ _).law hs
    have hroom := allPass_mem hpass (b := decide (4 ≤ s.reservedFrames)) (r := result .refusedFull [1])
      (by simp [State.recoatChecks])
    exact Nat.not_le.mp (of_decide_eq_false hroom)
  case reclaimMap =>
    refine judged fun _ => ?_
    split
    · exact hs
    next f _ =>
      refine hs.besideFrames ?_ ?_ ?_ fun v hv =>
        (State.framesIn_of_coverage ?_ v).trans (State.framesIn_setFrame_free s f hv) <;> simp
  case declareClear =>
    refine judged fun _ => ?_
    dsimp only
    exact State.clearLine_law hs
  case resumeCell =>
    refine judged fun hpass => ?_
    dsimp only
    have hcell : s.sequencer.cell = .stopped := by
      simpa using allPass_mem hpass (b := s.sequencer.cell != .stopped) (r := result .refusedState [1])
        (by simp [State.resumeChecks])
    obtain ⟨hphase, hvalve⟩ := hsteady.resting (by simp [hcell]) (by simp [hcell]) (by simp [hcell])
    refine (State.CellMoves.of_sequencer (Sequencer.steady_of_resting ?_ ?_) (.inr ?_) (by simp) (by simp)).law hs <;>
      simp [hphase, hvalve, hcell]

theorem State.writeRegister_cellMoves {s : State} (h : s.sequencer.steady) (position : BitVec 3) (data : Word) :
    s.CellMoves (s.writeRegister position data) := by
  have beside {t : State} (hsequencer : t.sequencer = s.sequencer) (htracker : t.tracker = s.tracker)
      (hcoverage : t.coverage = s.coverage) : s.CellMoves t := .of_eq h hsequencer (by rw [htracker]) hcoverage
  unfold State.writeRegister
  split
  · unfold State.writeLineCtl
    split
    · exact State.requestMode_cellMoves h _
    · exact State.requestMode_cellMoves h _
    · exact State.requestMode_cellMoves h _
    · exact beside rfl rfl rfl
  all_goals exact beside rfl rfl rfl

theorem eventsKeep_cellFrameLaw : EventsKeep fun s => s.cellFrameLaw F where
  queue _ h := h.beside rfl rfl rfl
  visit v h := h.beside (by simp) (by simp) (by simp)
  run h := h.beside rfl rfl rfl
  hostWrite _ _ h := h.beside (by simp) (by simp) (by simp)
  writeRegister position data h := (State.writeRegister_cellMoves h.steady position data).law h
  clearScan h := h.beside rfl rfl rfl
  walk _ _ h := h.beside (by simp) (by simp) (by simp)
  card hi _ c h := Instr.cardEffect_cellFrameLaw hi c h
  completeCard c rest r h := h.beside (by simp) (by simp) (by simp)
  message hm h := hm.cellFrameLaw h
  receiver _ _ h := h.beside rfl rfl rfl
  internal ha h := ha.cellFrameLaw h
  reset cause extent h := State.resetBy_law h cause extent

/-- Settles O57, by the induction over the parts of an event: an operation moves a cell that is worked at, and only the
transfers into and out of it, a line clear and a reset move one that is not. -/
theorem stepsKeepCellAndFrameLaws : Obligations.StepsKeepCellAndFrameLaws := by
  intro s t hcell hframe hstep
  obtain ⟨hcell', hframe'⟩ := (eventsKeep_cellFrameLaw (F := True)).step ⟨hcell, fun _ => hframe⟩ hstep
  exact ⟨hcell', hframe' trivial⟩

end Sys2Proof.Machine
end

section
/-! PROOFS. Every list within its capacity (R1, R13, R131, R137): the lists and routes of the tracker, the oven list and
the gate, and the cell's list, through every event. -/

namespace Sys2Proof.Machine

/-! ### The room in the lists -/

/-- The tracker's lists within their capacities, with room for a board on its way (R1, R13). -/
structure Tracker.space (k : Tracker) : Prop where
  admissions : k.admissions.length ≤ 16
  mask : k.mask.length ≤ 1
  infeed : k.infeed.length ≤ 2
  cell : k.cell.length ≤ 1
  flashOff : k.flashOff.length ≤ 4
  cool : k.cool.length ≤ 3
  infeedRoom : k.maskToInfeed ≠ .idle → k.infeed.length ≤ 1
  flashRoom : k.cellToFlash ≠ .idle → k.flashOff.length ≤ 3

/-- The oven list within its capacity, and room in it while the gate is open (R131, R137). -/
structure Cure.space (c : Cure) : Prop where
  oven : c.oven.length ≤ 12
  room : c.gate = .opened → c.oven.length < 12

/-- The cell's list is empty while the cell is IDLE or LOADING. -/
def State.vacant (s : State) : Prop := s.sequencer.cell = .idle ∨ s.sequencer.cell = .loading → s.tracker.cell = []

theorem Cure.space.congr {c d : Cure} (h : c.space) (hoven : d.oven = c.oven) (hgate : d.gate = c.gate) : d.space :=
  ⟨hoven ▸ h.oven, hoven ▸ hgate ▸ h.room⟩

theorem State.lists_iff (s : State) :
    s.listLaw ∧ s.roomLaw ↔ s.tracker.space ∧ s.cure.space ∧ s.vacant := by
  constructor
  · rintro ⟨⟨hadmissions, hmask, hinfeed, hcell, hflash, hcool, hoven⟩, ⟨hinfeedRoom, hvacant, hflashRoom, hovenRoom⟩⟩
    exact ⟨⟨hadmissions, hmask, hinfeed, hcell, hflash, hcool, hinfeedRoom, hflashRoom⟩, ⟨hoven, hovenRoom⟩, hvacant⟩
  · rintro ⟨⟨hadmissions, hmask, hinfeed, hcell, hflash, hcool, hinfeedRoom, hflashRoom⟩, ⟨hoven, hovenRoom⟩, hvacant⟩
    exact ⟨⟨hadmissions, hmask, hinfeed, hcell, hflash, hcool, hoven⟩, ⟨hinfeedRoom, hvacant, hflashRoom, hovenRoom⟩⟩

theorem Tracker.layout_space {k : Tracker} : k.layout.space ↔ k.space :=
  ⟨fun ⟨h1, h2, h3, h4, h5, h6, h7, h8⟩ => ⟨h1, h2, h3, h4, h5, h6, h7, h8⟩,
    fun ⟨h1, h2, h3, h4, h5, h6, h7, h8⟩ => ⟨h1, h2, h3, h4, h5, h6, h7, h8⟩⟩

theorem Tracker.space_of_layout {k l : Tracker} (h : k.space) (hlayout : l.layout = k.layout) : l.space :=
  Tracker.layout_space.mp (hlayout ▸ Tracker.layout_space.mpr h)

/-- A move of the cell empties no list, and leaves IDLE and LOADING only. -/
theorem State.CellMoves.vacant {s t : State} (h : s.CellMoves t) (hlist : t.tracker.cell = s.tracker.cell)
    (hs : s.vacant) : t.vacant := by
  intro hcell
  rw [hlist]
  obtain hsame | ⟨-, hidle, hloading⟩ := h.cell
  · exact hs (hsame ▸ hcell)
  · exact (hcell.elim hidle hloading).elim

/-! ### The gate -/

variable {s : State}

@[simp] theorem State.driveGate_gate (s : State) : s.driveGate.cure.gate = s.gateWanted := by
  unfold State.driveGate
  split
  next h => exact beq_iff_eq.mp h
  · rfl

theorem State.driveGate_cure (s : State) : s.driveGate.cure = { s.cure with gate := s.gateWanted } := by
  unfold State.driveGate
  split
  next h => rw [← beq_iff_eq.mp h]
  · rfl

theorem State.gateWanted_opened : s.gateWanted = .opened ↔ s.gateCondition = true := by
  unfold State.gateWanted
  split <;> simp_all

theorem State.gateCondition_room (h : s.gateCondition = true) : s.cure.oven.length < 12 := by
  simp only [State.gateCondition, Bool.and_eq_true, decide_eq_true_eq] at h
  obtain ⟨⟨⟨⟨⟨-, hroom⟩, -⟩, -⟩, -⟩, -⟩ := h
  exact hroom

/-! ### The oven list and the gate through the operations -/

@[simp] theorem State.takeReading_gate (s : State) (z : Fin 6) (r : Option Nat) :
    (s.takeReading z r).cure.oven = s.cure.oven ∧ (s.takeReading z r).cure.gate = s.cure.gate := by
  unfold State.takeReading
  dsimp only
  split <;> simp

theorem foldReadings_gate (g : Fin 6 → Option Nat) (s : State) (l : List (Fin 6)) :
    (l.foldl (fun s z => s.takeReading z (g z)) s).cure.oven = s.cure.oven ∧
      (l.foldl (fun s z => s.takeReading z (g z)) s).cure.gate = s.cure.gate :=
  ⟨foldl_keeps (·.cure.oven) _ (fun u z => (u.takeReading_gate z (g z)).1) s l,
    foldl_keeps (·.cure.gate) _ (fun u z => (u.takeReading_gate z (g z)).2) s l⟩

section

variable (h : s.cure.space)
include h

theorem State.cureSpace_of_eq {t : State} (hcure : t.cure = s.cure) : t.cure.space := hcure ▸ h

theorem State.driveGate_cureSpace : s.driveGate.cure.space := by
  rw [State.driveGate_cure]
  exact ⟨h.oven, fun hopen => State.gateCondition_room (State.gateWanted_opened.mp hopen)⟩

theorem State.handMode_cureSpace : s.handMode.cure.space :=
  State.driveGate_cureSpace (State.cureSpace_of_eq h (by simp))

theorem State.changeMode_cureSpace (m : LineMode) : (s.changeMode m).cure.space :=
  State.handMode_cureSpace (State.cureSpace_of_eq h (by simp))

theorem State.reportEmpty_cureSpace : s.reportEmpty.cure.space := by
  unfold State.reportEmpty
  split
  · exact State.changeMode_cureSpace h _
  · exact h

theorem State.raiseFault_cureSpace (c : FaultCode) (r : Option Route) (n : Option Tag) (k : Nat) :
    (s.raiseFault c r n k).cure.space := by
  unfold State.raiseFault
  dsimp only
  split
  · exact State.handMode_cureSpace (State.cureSpace_of_eq h (by simp))
  · exact State.cureSpace_of_eq h (by simp)

theorem State.requestMode_cureSpace (m : LineMode) : (s.requestMode m).cure.space := by
  unfold State.requestMode
  split
  · exact State.reportEmpty_cureSpace (State.changeMode_cureSpace h m)
  · exact State.cureSpace_of_eq h (by simp)

theorem State.startRoute_cureSpace (r : Route) (t : Tag) : (s.startRoute r t).cure.space := by
  refine State.driveGate_cureSpace (State.cureSpace_of_eq h ?_)
  split <;> split <;> simp

theorem State.completeRoute_cureSpace (r : Route) (t : Tag) (n : Nat) : (s.completeRoute r t n).cure.space := by
  cases r with
  | maskToInfeed => exact State.cureSpace_of_eq h (by simp [State.completeRoute, State.doneMaskToInfeed])
  | maskToLane => exact State.reportEmpty_cureSpace (State.cureSpace_of_eq h (by simp))
  | infeedToCell => exact State.cureSpace_of_eq h (by simp [State.completeRoute, State.doneInfeedToCell])
  | cellToFlash => exact State.driveGate_cureSpace (State.cureSpace_of_eq h (by simp))
  | coolToExit =>
    refine State.reportEmpty_cureSpace (State.cureSpace_of_eq (s := State.driveGate _)
      (State.driveGate_cureSpace (State.cureSpace_of_eq h ?_)) (State.driveLoader_keeps _).2.2.2.2.2.2.2.2.1)
    simp
  | coolToSpur => exact State.reportEmpty_cureSpace (State.driveGate_cureSpace (State.cureSpace_of_eq h (by simp)))

theorem State.assertStop_cureSpace : s.assertStop.cure.space := by
  refine State.driveGate_cureSpace ?_
  rw [(foldRecords_keeps (fun _ _ => BoardRecord.addReason .ovenStopped) _ _).2.2.2.2.2.2.2.2.1]
  split
  · exact h
  · exact ⟨h.oven, h.room⟩

theorem State.exitOverrun_cureSpace (t : Tag) : (s.exitOverrun t).cure.space := by
  unfold State.exitOverrun
  dsimp only
  refine State.reportEmpty_cureSpace (State.raiseFault_cureSpace (State.cureSpace_of_eq (State.assertStop_cureSpace
    (State.cureSpace_of_eq (t := s.modifyRecord t fun b => (b.addReason .exitOverrun).hold .none s.lineTime) h
      (by simp))) ?_) _ _ _ _)
  simp

theorem State.exitToCool_cureSpace (t : Tag) : (s.exitToCool t).cure.space := by
  unfold State.exitToCool
  dsimp only
  refine State.driveGate_cureSpace (State.cureSpace_of_eq h ?_)
  split <;> simp

theorem State.takeExitSeen_cureSpace : s.takeExitSeen.cure.space := by
  unfold State.takeExitSeen
  split
  · exact State.raiseFault_cureSpace h _ _ _ _
  next t l hoven =>
    dsimp only
    have hleft : ((s.mapCure fun c => { c with oven := l }).modifyRecord t
        (BoardRecord.judgeExit s.oven (s.boardCoating t) s.lineTime)).cure.space := by
      obtain ⟨hlength, hroom⟩ := h
      rw [hoven, List.length_cons] at hlength hroom
      exact ⟨by simp; omega, fun hopen => by
        have hlt := hroom hopen
        simp; omega⟩
    split
    · exact State.exitToCool_cureSpace hleft t
    · exact State.exitOverrun_cureSpace hleft t

theorem State.enterOven_cureSpace (hopen : s.cure.gate = .opened) (t : Tag) : (s.enterOven t).cure.space := by
  refine State.driveGate_cureSpace ⟨?_, ?_⟩
  · have hroom := h.room hopen
    simp
    omega
  · simp

theorem State.takeEntrySeen_cureSpace : s.takeEntrySeen.cure.space := by
  unfold State.takeEntrySeen
  split
  next hopen _ => exact State.enterOven_cureSpace h hopen _
  · exact State.raiseFault_cureSpace h _ _ _ _
  · exact State.raiseFault_cureSpace h _ _ _ _

theorem State.takeOvenSample_cureSpace (v : Vector Half 6) (d : Half) : (s.takeOvenSample v d).cure.space := by
  refine State.driveGate_cureSpace ?_
  rw [(foldRecords_keeps (fun s t => BoardRecord.sample s.oven (s.boardCoating t) s.cure.zones (min 4095 d.toNat))
    _ _).2.2.2.2.2.2.2.2.1]
  obtain ⟨hoven, hgate⟩ := foldReadings_gate (fun z => readingOf v[z.val])
    (s.mapCure fun c => { c with sampling := .receiving, silence := some (s.lineTime + Config.ovenSilence) }) allZones
  exact h.congr hoven hgate

end

/-! ### The lists through the events -/

/-- The lists within their capacities, with what keeps them so. -/
structure State.listsLaw (s : State) : Prop where
  tracker : s.tracker.space
  cure : s.cure.space
  vacant : s.vacant

@[simp] theorem length_joinTail (l : List Place) (t : Tag) : (joinTail l t).length = l.length + 1 := by
  simp [joinTail]

@[simp] theorem length_markHead (l : List Place) : (markHead l).length = l.length := by
  cases l <;> rfl

theorem markHead_eq_nil_iff (l : List Place) : markHead l = [] ↔ l = [] := by
  cases l <;> simp [markHead]

/-- An operation that leaves the lists and routes, and moves the cell. -/
theorem State.listsLaw.of_moves {t : State} (hs : s.listsLaw) (hmoves : s.CellMoves t)
    (hlayout : t.tracker.layout = s.tracker.layout) (hcure : t.cure.space) : t.listsLaw :=
  ⟨Tracker.space_of_layout hs.tracker hlayout, hcure, hmoves.vacant (congrArg Tracker.cell hlayout :) hs.vacant⟩

theorem Tracker.space_endTransfer {k : Tracker} (h : k.space) (r : Route) :
    ((k.setSource r (k.source r).tail).setRoute r .idle).space := by
  obtain ⟨hadmissions, hmask, hinfeed, hcell, hflash, hcool, hinfeedRoom, hflashRoom⟩ := h
  cases r <;>
  · refine ⟨?_, ?_, ?_, ?_, ?_, ?_, ?_, ?_⟩ <;> simp [Tracker.setRoute, Tracker.setSource, Tracker.source] <;> omega

theorem Tracker.space_setRoute {k : Tracker} (h : k.space) {r : Route} {v : RouteState}
    (hr : r ≠ .maskToInfeed ∧ r ≠ .cellToFlash ∨ k.route r ≠ .idle) : (k.setRoute r v).space := by
  obtain ⟨hadmissions, hmask, hinfeed, hcell, hflash, hcool, hinfeedRoom, hflashRoom⟩ := h
  cases r <;>
  · refine ⟨?_, ?_, ?_, ?_, ?_, ?_, ?_, ?_⟩ <;> simp_all [Tracker.setRoute, Tracker.route]

theorem Tracker.cell_of_layout {k l : Tracker} (h : k.layout = l.layout) : k.cell = l.cell :=
  (congrArg Tracker.cell h :)

@[simp] theorem Tracker.setRoute_cell (k : Tracker) (r : Route) (v : RouteState) : (k.setRoute r v).cell = k.cell := by
  cases r <;> rfl

theorem State.endTransfer_listsLaw (hs : s.listsLaw) (r : Route) :
    (s.endTransfer r).listsLaw := by
  refine ⟨Tracker.space_endTransfer hs.tracker r, State.cureSpace_of_eq hs.cure (by simp), fun hcell => ?_⟩
  have hempty := hs.vacant (by simpa using hcell)
  cases r <;> simp [State.endTransfer, Tracker.setRoute, Tracker.setSource, Tracker.source, hempty]

theorem State.failTransfer_listsLaw (hsteady : s.sequencer.steady) (hs : s.listsLaw) {r : Route}
    (hr : s.tracker.route r ≠ .idle) (cause : Nat) : (s.failTransfer r cause).listsLaw := by
  have hmoves := State.failTransfer_cellMoves hsteady hr cause
  have hlayout : (s.failTransfer r cause).tracker.layout = (s.tracker.setRoute r .faulted).layout := by
    simp [State.failTransfer]
  have hlist : (s.failTransfer r cause).tracker.cell = s.tracker.cell := by
    rw [Tracker.cell_of_layout hlayout, Tracker.setRoute_cell]
  have hcure : (s.mapTracker fun k => k.setRoute r .faulted).cure.space := hs.cure
  exact ⟨Tracker.space_of_layout (Tracker.space_setRoute hs.tracker (.inr hr)) hlayout,
    State.raiseFault_cureSpace hcure _ _ _ _, hmoves.vacant hlist hs.vacant⟩

theorem State.startRoute_listsLaw (hs : s.listsLaw) {r : Route} {t : Tag}
    (hstart : s.startable r = some t) : (s.startRoute r t).listsLaw := by
  obtain ⟨-, -, hcondition⟩ := State.startable_spec hstart
  obtain ⟨slot, htracker⟩ := s.startRoute_tracker r t
  refine ⟨?_, State.startRoute_cureSpace hs.cure r t, fun hrest => ?_⟩
  · obtain ⟨hadmissions, hmask, hinfeed, hcell, hflash, hcool, hinfeedRoom, hflashRoom⟩ := hs.tracker
    rw [htracker]
    cases r <;>
      simp only [State.routeCondition, Bool.and_eq_true, decide_eq_true_eq] at hcondition <;>
      refine ⟨?_, ?_, ?_, ?_, ?_, ?_, ?_, ?_⟩ <;>
      simp [Tracker.setRoute, Tracker.setSource, Tracker.source] <;> omega
  · have hlist : (s.startRoute r t).tracker.cell = if r = .cellToFlash then markHead s.tracker.cell else
      s.tracker.cell := by
      rw [htracker]
      cases r <;> rfl
    rw [hlist]
    rw [State.startRoute_sequencer] at hrest
    split
    next hout =>
      simp only [hout, State.routeCondition, Bool.and_eq_true, beq_iff_eq] at hcondition
      simp [hout, hcondition.1.1] at hrest
    · refine hs.vacant ?_
      split at hrest
      next hinto =>
        simp only [hinto, State.routeCondition, Bool.and_eq_true, beq_iff_eq] at hcondition
        exact .inl hcondition.1.1
      · exact hrest

/-! ### Transfers that complete -/

theorem State.doneMaskToInfeed_listsLaw (hsteady : s.sequencer.steady) (hs : s.listsLaw)
    (hroom : s.tracker.infeed.length ≤ 1) (hidle : s.tracker.maskToInfeed = .idle) (n : Tag) :
    (s.doneMaskToInfeed n).listsLaw := by
  have hmoves := State.completeRoute_cellMoves hsteady (r := .maskToInfeed) (by simp) n 0
  have hlayout : (s.doneMaskToInfeed n).tracker.layout =
      ({ s.tracker with infeed := joinTail s.tracker.infeed n } : Tracker).layout := by
    simp [State.doneMaskToInfeed]
    rfl
  obtain ⟨hadmissions, hmask, -, hcell, hflash, hcool, -, hflashRoom⟩ := hs.tracker
  refine ⟨Tracker.space_of_layout (k := { s.tracker with infeed := joinTail s.tracker.infeed n })
      ⟨hadmissions, hmask, ?_, hcell, hflash, hcool, fun hbusy => absurd hidle hbusy,
    hflashRoom⟩ hlayout, State.completeRoute_cureSpace hs.cure .maskToInfeed n 0,
    hmoves.vacant ((Tracker.cell_of_layout hlayout).trans rfl) hs.vacant⟩
  simp only [length_joinTail]
  omega

theorem State.doneInfeedToCell_listsLaw (hsteady : s.sequencer.steady) (hs : s.listsLaw)
    (hloading : s.sequencer.cell = .loading) (n : Tag) : (s.doneInfeedToCell n).listsLaw := by
  have hempty := hs.vacant (.inr hloading)
  have hlayout : (s.doneInfeedToCell n).tracker.layout =
      ({ s.tracker with cell := joinTail s.tracker.cell n } : Tracker).layout := by
    simp [State.doneInfeedToCell]
    rfl
  have hvalve := (hsteady.grounded (by simp [hloading])).2
  obtain ⟨-, hidle, hnotLoading⟩ := State.sprayStart_steady (s := (s.mapTracker fun k =>
    { k with cell := joinTail k.cell n }).modifyRecord n fun b => { b with stage := .spraying })
        (by simpa using hvalve) n
  obtain ⟨hadmissions, hmask, hinfeed, -, hflash, hcool, hinfeedRoom, hflashRoom⟩ := hs.tracker
  exact ⟨Tracker.space_of_layout (k := { s.tracker with cell := joinTail s.tracker.cell n })
      ⟨hadmissions, hmask, hinfeed, by simp [hempty], hflash, hcool, hinfeedRoom, hflashRoom⟩
    hlayout, State.completeRoute_cureSpace hs.cure .infeedToCell n 0,
    fun hrest => (hrest.elim hidle hnotLoading).elim⟩

theorem State.doneCellToFlash_listsLaw (hs : s.listsLaw) (hempty : s.tracker.cell = [])
    (hroom : s.tracker.flashOff.length ≤ 3) (hidle : s.tracker.cellToFlash = .idle) (n : Tag) :
    (s.doneCellToFlash n).listsLaw := by
  have hlayout : (s.doneCellToFlash n).tracker.layout =
      ({ s.tracker with flashOff := joinTail s.tracker.flashOff n } : Tracker).layout := by
    simp [State.doneCellToFlash]
    rfl
  obtain ⟨hadmissions, hmask, hinfeed, hcell, -, hcool, hinfeedRoom, -⟩ := hs.tracker
  refine ⟨Tracker.space_of_layout (k := { s.tracker with flashOff := joinTail s.tracker.flashOff n })
      ⟨hadmissions, hmask, hinfeed, hcell, ?_, hcool, hinfeedRoom,
    fun hbusy => absurd hidle hbusy⟩ hlayout, State.completeRoute_cureSpace hs.cure .cellToFlash n 0, fun _ => ?_⟩
  · simp only [length_joinTail]
    omega
  · rw [Tracker.cell_of_layout hlayout, hempty]

theorem State.completeRoute_layout {r : Route} (hr : r = .maskToLane ∨ r = .coolToExit ∨ r = .coolToSpur) (n : Tag)
    (slot : Nat) : (s.completeRoute r n slot).tracker.layout = s.tracker.layout := by
  obtain rfl | rfl | rfl := hr
  · simp [State.completeRoute, State.doneMaskToLane]
  · simp [State.completeRoute, State.doneCoolToExit]
  · simp [State.completeRoute, State.doneCoolToSpur]

theorem State.takeTransferDone_listsLaw (hcell : s.cellLaw) (hs : s.listsLaw) (r : Route) :
    (s.takeTransferDone r).listsLaw := by
  have hended := State.endTransfer_listsLaw hs r
  have hsteady := (State.endTransfer_cellMoves hcell.steady r).steady
  unfold State.takeTransferDone
  split
  next d slot hflight =>
    split
    · exact hended
    next n _ =>
      have listed {r : Route} (hr : r = .maskToLane ∨ r = .coolToExit ∨ r = .coolToSpur)
          (hended : (s.endTransfer r).listsLaw) (hsteady : (s.endTransfer r).sequencer.steady) :
          ((s.endTransfer r).completeRoute r n slot).listsLaw :=
        hended.of_moves (State.completeRoute_cellMoves hsteady (by obtain rfl | rfl | rfl := hr <;> simp) n slot)
          (State.completeRoute_layout hr n slot) (State.completeRoute_cureSpace hended.cure r n slot)
      cases r with
      | maskToInfeed =>
        have hroom := hs.tracker.infeedRoom (by rw [show s.tracker.maskToInfeed = _ from hflight]; simp)
        exact State.doneMaskToInfeed_listsLaw hsteady hended hroom rfl n
      | infeedToCell =>
        have hloading := hcell.infeed (by rw [show s.tracker.infeedToCell = _ from hflight]; simp)
        exact State.doneInfeedToCell_listsLaw hsteady hended (by simpa using hloading) n
      | cellToFlash =>
        have hroom := hs.tracker.flashRoom (by rw [show s.tracker.cellToFlash = _ from hflight]; simp)
        have hempty : s.tracker.cell.tail = [] := List.length_eq_zero_iff.mp (by
          have hone := hs.tracker.cell
          rw [List.length_tail]
          omega)
        exact State.doneCellToFlash_listsLaw hended hempty hroom rfl n
      | maskToLane => exact listed (.inl rfl) hended hsteady
      | coolToExit => exact listed (.inr (.inl rfl)) hended hsteady
      | coolToSpur => exact listed (.inr (.inr rfl)) hended hsteady
  · exact hs

/-! ### Arrivals, the oven and its exit -/

theorem length_removeAdmission (serial : Serial) (l : List Admission) : (removeAdmission serial l).length ≤ l.length :=
  (removeAdmission_sublist serial l).length_le

theorem State.takeArrival_listsLaw (hsteady : s.sequencer.steady) (hs : s.listsLaw) (serial : Option Serial) :
    (s.takeArrival serial).listsLaw := by
  have hmoves := State.takeArrival_cellMoves hsteady serial
  have hcure : (s.takeArrival serial).cure.space := State.cureSpace_of_eq hs.cure (by simp)
  obtain hlayout | ⟨a, t, hmask, hlayout⟩ : (s.takeArrival serial).tracker.layout = s.tracker.layout ∨
      ∃ a t, s.tracker.mask = [] ∧ (s.takeArrival serial).tracker.layout =
        ({ s.tracker with
          admissions := removeAdmission a s.tracker.admissions, mask := joinTail s.tracker.mask t } : Tracker).layout
              := by
    unfold State.takeArrival
    dsimp only
    split
    next hready =>
      simp only [State.loaderCondition, Bool.and_eq_true, List.isEmpty_iff] at hready
      split
      · exact .inl (by simp)
      · split
        · exact .inl (by simp)
        next a _ =>
          split
          · exact .inl rfl
          next t _ _ => exact .inr ⟨a.serial, t, hready.1.2, by simp [State.matchArrival]; rfl⟩
    · exact .inl (by simp)
  · exact hs.of_moves hmoves hlayout hcure
  · obtain ⟨hadmissions, -, hinfeed, hcell, hflash, hcool, hinfeedRoom, hflashRoom⟩ := hs.tracker
    exact ⟨Tracker.space_of_layout (k := { s.tracker with
        admissions := removeAdmission a s.tracker.admissions, mask := joinTail s.tracker.mask t })
      ⟨(length_removeAdmission _ _).trans hadmissions, by simp [hmask], hinfeed, hcell, hflash, hcool, hinfeedRoom,
        hflashRoom⟩ hlayout, hcure, hmoves.vacant ((Tracker.cell_of_layout hlayout).trans rfl)
          hs.vacant⟩

theorem State.raiseFault_listsLaw (hsteady : s.sequencer.steady) (hs : s.listsLaw) (c : FaultCode) (r : Option Route)
    (n : Option Tag) (k : Nat) : (s.raiseFault c r n k).listsLaw :=
  hs.of_moves (State.raiseFault_cellMoves hsteady c r n k) (by simp) (State.raiseFault_cureSpace hs.cure c r n k)

theorem State.takeEntrySeen_listsLaw (hsteady : s.sequencer.steady) (hs : s.listsLaw) : s.takeEntrySeen.listsLaw := by
  unfold State.takeEntrySeen
  split
  next t hopen _ =>
    have hlayout : (s.enterOven t).tracker.layout =
        ({ s.tracker with flashOff := s.tracker.flashOff.tail } : Tracker).layout := by
      simp [State.enterOven]
    have htail : s.tracker.flashOff.tail.length ≤ s.tracker.flashOff.length := by simp
    obtain ⟨hadmissions, hmask, hinfeed, hcell, hflash, hcool, hinfeedRoom, hflashRoom⟩ := hs.tracker
    exact ⟨Tracker.space_of_layout (k := { s.tracker with flashOff := s.tracker.flashOff.tail })
        ⟨hadmissions, hmask, hinfeed, hcell, htail.trans hflash, hcool, hinfeedRoom,
      fun hbusy => htail.trans (hflashRoom hbusy)⟩ hlayout, State.enterOven_cureSpace hs.cure hopen t,
      (State.enterOven_cellMoves hsteady t).vacant ((Tracker.cell_of_layout hlayout).trans rfl) hs.vacant⟩
  · exact State.raiseFault_listsLaw hsteady hs _ _ _ _
  · exact State.raiseFault_listsLaw hsteady hs _ _ _ _

theorem State.takeExitSeen_listsLaw (hsteady : s.sequencer.steady) (hs : s.listsLaw) : s.takeExitSeen.listsLaw := by
  have hmoves := State.takeExitSeen_cellMoves hsteady
  obtain hlayout | ⟨t, hroom, hlayout⟩ : s.takeExitSeen.tracker.layout = s.tracker.layout ∨
      ∃ t, s.tracker.cool.length < 3 ∧ s.takeExitSeen.tracker.layout =
        ({ s.tracker with cool := joinTail s.tracker.cool t } : Tracker).layout := by
    unfold State.takeExitSeen
    split
    · exact .inl (by simp)
    next t l _ =>
      dsimp only
      split
      next hroom =>
        refine .inr ⟨t, hroom, ?_⟩
        unfold State.exitToCool
        dsimp only
        split <;> simp <;> rfl
      · exact .inl (by simp)
  · exact hs.of_moves hmoves hlayout (State.takeExitSeen_cureSpace hs.cure)
  · obtain ⟨hadmissions, hmask, hinfeed, hcell, hflash, -, hinfeedRoom, hflashRoom⟩ := hs.tracker
    exact ⟨Tracker.space_of_layout (k := { s.tracker with cool := joinTail s.tracker.cool t })
        ⟨hadmissions, hmask, hinfeed, hcell, hflash, by simp; omega, hinfeedRoom, hflashRoom⟩
      hlayout, State.takeExitSeen_cureSpace hs.cure, hmoves.vacant ((Tracker.cell_of_layout hlayout).trans rfl)
          hs.vacant⟩

/-! ### The events -/

/-- The law of the cell with that of the lists. -/
structure State.roomyLaw (s : State) : Prop where
  cell : s.cellFrameLaw False
  lists : s.listsLaw

theorem State.Delivers.listsLaw {t : State} (h : s.Delivers t) (hcell : s.cellLaw) (hs : s.listsLaw) : t.listsLaw := by
  have hsteady := hcell.steady
  cases h with
  | ignored => exact hs
  | segStarted tag index =>
    exact hs.of_moves (State.takeSegStarted_cellMoves hsteady tag index) (by simp)
        (State.cureSpace_of_eq hs.cure (by simp))
  | segDone tag index =>
    exact hs.of_moves (State.takeSegDone_cellMoves hsteady tag index) (by simp)
        (State.cureSpace_of_eq hs.cure (by simp))
  | motionFault =>
    exact hs.of_moves (State.takeMotionFault_cellMoves hsteady) (by simp) (State.cureSpace_of_eq hs.cure (by simp))
  | pressure applicator kPa =>
    exact hs.of_moves (State.takePressure_cellMoves hsteady applicator kPa) (by simp)
      (State.cureSpace_of_eq hs.cure (by simp))
  | guard g =>
    exact hs.of_moves (State.takeGuard_cellMoves hsteady g) (by simp) (State.cureSpace_of_eq hs.cure (by simp))
  | maskResult | slotState =>
    exact hs.of_moves (.of_eq hsteady (by simp) (by simp) (by simp)) (by simp) (State.cureSpace_of_eq hs.cure (by simp))
  | ovenSample readings delta =>
    exact hs.of_moves (.of_eq hsteady (by simp) (by simp) (by simp)) (by simp)
      (State.takeOvenSample_cureSpace hs.cure readings delta)
  | arrival serial => exact State.takeArrival_listsLaw hsteady hs serial
  | transferDone r => exact State.takeTransferDone_listsLaw hcell hs r
  | transferFault r =>
    unfold State.takeTransferFault
    split
    next hflight => exact State.failTransfer_listsLaw hsteady hs (by simp [hflight]) 1
    · exact hs
  | entrySeen => exact State.takeEntrySeen_listsLaw hsteady hs
  | exitSeen => exact State.takeExitSeen_listsLaw hsteady hs

theorem State.listsLaw.beside {t : State} (hs : s.listsLaw)
    (hsequencer : t.sequencer = s.sequencer) (hlayout : t.tracker.layout = s.tracker.layout)
    (hcure : t.cure = s.cure) : t.listsLaw := by
  refine ⟨Tracker.space_of_layout hs.tracker hlayout, State.cureSpace_of_eq hs.cure hcure, fun hrest => ?_⟩
  rw [Tracker.cell_of_layout hlayout]
  exact hs.vacant (hsequencer ▸ hrest)

theorem State.Acts.listsLaw {t : State} (h : s.Acts t) (hcell : s.cellLaw) (hs : s.listsLaw) : t.listsLaw := by
  have hsteady := hcell.steady
  cases h with
  | nothing => exact hs
  | tick | flashOff | transmit => exact hs.beside rfl rfl rfl
  | verification | openTime | recoatExpired => exact hs.beside (by simp) (by simp) (by simp)
  | flashOffHead t i =>
    exact hs.of_moves (.of_eq hsteady (by simp) (by simp) (by simp)) (by simp)
      (State.driveGate_cureSpace (State.cureSpace_of_eq hs.cure (by simp)))
  | transferStart hstart => exact State.startRoute_listsLaw hs hstart
  | transferDeadline hflight => exact State.failTransfer_listsLaw hsteady hs (by simp [hflight]) 2
  | segmentDeadline hflight =>
    exact hs.of_moves (State.abort_cellMoves (.inl (hsteady.flying hflight)) _ _) (by simp)
      (State.cureSpace_of_eq hs.cure (by simp))
  | pressureSilence a sample =>
    have hmonitor := State.mapMonitor_cellMoves hsteady a fun m => { m with silence := none }
    exact hs.of_moves (hmonitor.trans (State.changeMonitor_cellMoves hmonitor.steady _ _ _)) (by simp)
      (State.cureSpace_of_eq hs.cure (by simp))
  | ovenSilent =>
    have hfold := foldRecords_keeps (fun _ _ => BoardRecord.addReason .cureUnverified)
    refine ⟨Tracker.space_of_layout hs.tracker ?_, hs.cure.congr ?_ ?_, fun hrest => ?_⟩
    · simp [foldRecords_layout _ (fun _ _ => BoardRecord.addReason .cureUnverified)]
    · simp [hfold]
    · simp [hfold]
    · rw [Tracker.cell_of_layout (l := s.tracker)
        (by simp [foldRecords_layout _ (fun _ _ => BoardRecord.addReason .cureUnverified)])]
      exact hs.vacant (by simpa [hfold] using hrest)

theorem State.clearOven_cure (s : State) : s.clearOven.cure = { s.cure with ovenStop := false, gate := .closed } := by
  unfold State.clearOven
  dsimp only
  split <;> rfl

theorem State.clearedLine_cure (s : State) : s.clearedLine.cure.oven = [] ∧ s.clearedLine.cure.gate = .closed := by
  unfold State.clearedLine
  simp [State.clearOven_cure, State.clearLists]

/-- A line clear empties the tracker's lists, but for the admissions, and makes the routes IDLE (R174). -/
theorem State.clearedLine_tracker (s : State) : ∃ boards, s.clearedLine.tracker.layout =
    ({ Tracker.reset boards with admissions := s.tracker.admissions } : Tracker).layout := by
  refine ⟨Vector.replicate 32 BoardRecord.blank, ?_⟩
  unfold State.clearedLine
  simp [State.clearLists, State.clearFrames]
  rfl

theorem Tracker.reset_space (boards : Vector BoardRecord 32) {admissions : List Admission}
    (h : admissions.length ≤ 16) : ({ Tracker.reset boards with admissions := admissions } : Tracker).space := by
  refine ⟨h, ?_, ?_, ?_, ?_, ?_, ?_, ?_⟩ <;> simp [Tracker.reset]

theorem State.clearLine_listsLaw (hs : s.listsLaw) : s.clearLine.listsLaw := by
  obtain ⟨boards, hlayout⟩ := s.clearedLine_tracker
  obtain ⟨hoven, hgate⟩ := s.clearedLine_cure
  have hsteady : s.clearedLine.sequencer.steady := by
    unfold State.clearedLine
    dsimp only
    generalize State.clearLists _ = u
    obtain ⟨hphase, hvalve, -⟩ := u.clearSlots.clearCell_sequencer
    exact Sequencer.steady_of_resting (by simpa using hphase) (by simpa using hvalve)
  have hcleared : s.clearedLine.listsLaw :=
    ⟨Tracker.space_of_layout (Tracker.reset_space boards hs.tracker.admissions) hlayout,
      ⟨by simp [hoven], by simp [hgate]⟩, fun _ => (Tracker.cell_of_layout hlayout).trans rfl⟩
  rw [State.clearLine_eq]
  exact hcleared.of_moves (State.changeMode_cellMoves hsteady .ready) (by simp)
    (State.changeMode_cureSpace hcleared.cure .ready)

theorem State.beginRestart_listsLaw (s : State) (kind : ResetKind) : (s.beginRestart kind).listsLaw := by
  have converted (u : State) (e : Activity) : (u.convert.append e).listsLaw := by
    have hspace := Tracker.reset_space (u.tracker.boards.map BoardRecord.restart) (admissions := []) (by simp)
    refine ⟨?_, ?_, fun _ => ?_⟩
    · rw [(State.append_keeps _ _).2.2.2.2.1]
      exact hspace
    · rw [(State.append_keeps _ _).2.2.2.2.2.2.2.2.1]
      exact ⟨by simp [State.convert, Cure.reset], by simp [State.convert, Cure.reset]⟩
    · rw [(State.append_keeps _ _).2.2.2.2.1]
      rfl
  cases kind <;> exact converted _ _

theorem State.resetBy_listsLaw (hs : s.listsLaw) (cause : ResetKind)
    (extent : ResetExtent) : (s.resetBy cause extent).listsLaw := by
  cases extent with
  | held => exact hs.beside rfl rfl rfl
  | restart visits =>
    have hbegun := State.beginRestart_listsLaw (s.noteCause cause) (s.resetKind cause)
    exact hbegun.beside (by simp [State.resetBy]) (by simp [State.resetBy]) (by simp [State.resetBy])

theorem Instr.cardEffect_listsLaw {i : Instr} {apply : TakenCard → State → State × CardResult}
    (hi : Instr.cardEffect i = some apply) (c : TakenCard) (hcell : s.cellLaw) (hs : s.listsLaw) :
    (apply c s).1.listsLaw := by
  have hsteady := hcell.steady
  have judged {checks : List Check} {effect : State → State × CardResult}
      (heffect : allPass checks → (effect s).1.listsLaw) : (judge checks effect s).1.listsLaw :=
    judge_induct (P := State.listsLaw) hs heffect
  have admitted {t : State} {l : List Admission} (hl : l.length ≤ 16) (hsequencer : t.sequencer = s.sequencer)
      (hlayout : t.tracker.layout = ({ s.tracker with admissions := l } : Tracker).layout) (hcure : t.cure = s.cure) :
      t.listsLaw := by
    obtain ⟨-, hmask, hinfeed, hcell, hflash, hcool, hinfeedRoom, hflashRoom⟩ := hs.tracker
    refine ⟨Tracker.space_of_layout (k := { s.tracker with admissions := l })
      ⟨hl, hmask, hinfeed, hcell, hflash, hcool, hinfeedRoom, hflashRoom⟩ hlayout, State.cureSpace_of_eq hs.cure hcure,
      fun hrest => ?_⟩
    exact (Tracker.cell_of_layout hlayout).trans (hs.vacant (hsequencer ▸ hrest))
  cases i <;> cases hi
  case refusedKind => exact hs
  case applicatorLoad | coatingLoad | patchClear => exact judged fun _ => hs.beside rfl rfl rfl
  case recipeLoad => exact judged fun _ => hs.beside (by simp) (by simp) (by simp)
  case ovenLoad =>
    refine judged fun _ => hs.of_moves (.of_eq hsteady (by simp) (by simp) (by simp)) (by simp) ?_
    exact State.driveGate_cureSpace (State.cureSpace_of_eq hs.cure (by simp))
  case pathLoad =>
    refine judged fun _ => ?_
    unfold State.loadChunk
    dsimp only
    split <;> exact hs.beside rfl rfl rfl
  case patchSet =>
    refine judged fun _ => ?_
    split
    · exact hs
    · exact hs.beside rfl rfl rfl
  case admitCard =>
    refine judged fun hpass => admitted (l := s.tracker.admissions ++ [c.admitted]) ?_ rfl rfl rfl
    have hroom := allPass_mem hpass (b := decide (Config.admissionCapacity ≤ s.tracker.admissions.length))
      (r := result .refusedFull []) (by simp [State.admitChecks])
    have hlt := Nat.not_le.mp (of_decide_eq_false hroom)
    simpa using hlt
  case withdrawCard =>
    refine judged fun _ => ?_
    split
    · exact hs
    · have hlength := (length_removeAdmission (c.u64 16) s.tracker.admissions).trans hs.tracker.admissions
      dsimp only
      split <;> exact admitted hlength rfl rfl rfl
  case disposeRelease | disposeScrap =>
    exact judged fun _ => hs.beside (by simp [State.disposeOf]) (by simp [State.disposeOf])
      (by simp [State.disposeOf])
  case disposeRecoat =>
    refine judged fun hpass => admitted (l := s.tracker.admissions ++ [⟨(s.record c.boardTag).serial,
      (s.record c.boardTag).recipe, (s.record c.boardTag).pass + 1, (s.record c.boardTag).mapFrame⟩]) ?_ ?_ ?_ ?_
    · have hroom := allPass_mem hpass (b := decide (Config.admissionCapacity ≤ s.tracker.admissions.length))
        (r := result .refusedFull [2]) (by simp [State.recoatChecks])
      have hlt := Nat.not_le.mp (of_decide_eq_false hroom)
      simpa using hlt
    · simp [State.recoat]
    · simp [State.recoat]
    · simp [State.recoat]
  case reclaimMap =>
    refine judged fun _ => ?_
    split
    · exact hs
    · exact hs.beside (by simp) (by simp) (by simp)
  case declareClear =>
    refine judged fun _ => ?_
    dsimp only
    exact State.clearLine_listsLaw hs
  case resumeCell =>
    refine judged fun hpass => ?_
    dsimp only
    have hstopped : s.sequencer.cell = .stopped := by
      simpa using allPass_mem hpass (b := s.sequencer.cell != .stopped) (r := result .refusedState [1])
        (by simp [State.resumeChecks])
    refine ⟨Tracker.space_of_layout hs.tracker (by simp), State.cureSpace_of_eq hs.cure (by simp), ?_⟩
    simp [State.vacant]

theorem State.writeRegister_listsLaw (hsteady : s.sequencer.steady) (hs : s.listsLaw) (position : BitVec 3)
    (data : Word) : (s.writeRegister position data).listsLaw := by
  have requested (m : LineMode) : (s.requestMode m).listsLaw :=
    hs.of_moves (State.requestMode_cellMoves hsteady m) (by simp) (State.requestMode_cureSpace hs.cure m)
  unfold State.writeRegister
  split
  · unfold State.writeLineCtl
    split
    · exact requested _
    · exact requested _
    · exact requested _
    · exact hs.beside rfl rfl rfl
  all_goals exact hs.beside rfl rfl rfl

theorem State.roomyLaw.beside {t : State} (h : s.roomyLaw) (hsequencer : t.sequencer = s.sequencer)
    (htracker : t.tracker = s.tracker) (hcoverage : t.coverage = s.coverage) (hcure : t.cure = s.cure) : t.roomyLaw :=
  ⟨h.cell.beside hsequencer (by rw [htracker]) hcoverage,
    h.lists.beside hsequencer (by rw [htracker]) hcure⟩

theorem eventsKeep_roomyLaw : EventsKeep State.roomyLaw where
  queue _ h := h.beside rfl rfl rfl rfl
  visit v h := h.beside (by simp) (by simp) (by simp) (by simp)
  run h := h.beside rfl rfl rfl rfl
  hostWrite _ _ h := h.beside (by simp) (by simp) (by simp) (by simp)
  writeRegister position data h := ⟨(State.writeRegister_cellMoves h.cell.steady position data).law h.cell,
    State.writeRegister_listsLaw h.cell.steady h.lists position data⟩
  clearScan h := h.beside rfl rfl rfl rfl
  walk _ _ h := h.beside (by simp) (by simp) (by simp) (by simp)
  card hi _ c h := ⟨Instr.cardEffect_cellFrameLaw hi c h.cell, Instr.cardEffect_listsLaw hi c h.cell.cell h.lists⟩
  completeCard c rest r h := h.beside (by simp) (by simp) (by simp) (by simp)
  message hm h := ⟨hm.cellFrameLaw h.cell, hm.listsLaw h.cell.cell h.lists⟩
  receiver _ _ h := h.beside rfl rfl rfl rfl
  internal ha h := ⟨ha.cellFrameLaw h.cell, ha.listsLaw h.cell.cell h.lists⟩
  reset cause extent h := ⟨State.resetBy_law h.cell cause extent,
    State.resetBy_listsLaw h.lists cause extent⟩

/-- Settles O58, by the induction over the parts of an event: a list takes a board from a route that kept room for it,
through the open gate, or where a check found room. -/
theorem stepsKeepListsWithinCapacity : Obligations.StepsKeepListsWithinCapacity := by
  intro s t hcell hlist hroom hstep
  obtain ⟨htracker, hcure, hvacant⟩ := s.lists_iff.mp ⟨hlist, hroom⟩
  obtain ⟨-, ⟨htracker', hcure', hvacant'⟩⟩ :=
    eventsKeep_roomyLaw.step ⟨⟨hcell, False.elim⟩, ⟨htracker, hcure, hvacant⟩⟩ hstep
  exact t.lists_iff.mpr ⟨htracker', hcure', hvacant'⟩

end Sys2Proof.Machine
end

section
/-! PROOFS. The host port (chapter 2): what each window of exchange memory reads, host writes of words and of
registers, the append to the activity list and the completion of a card. -/

namespace Sys2Proof.Machine

variable {s : State}

/-! ### The queue -/

/-- Settles O1, by the two forms of a step. -/
theorem frontCommandRuns : Obligations.FrontCommandRuns :=
  ⟨fun _ _ => by simp [step], fun _ hempty => by simp [step, hempty]⟩

/-! ### Words and their bytes -/

/-- Four bytes spell the word whose bytes they are. -/
theorem le32_word_ofLe (a b c d : Byte) : le32 (word (ofLe [a, b, c, d])) = [a, b, c, d] := by
  have extracted (k : Nat) (x : Byte) (h : ofLe [a, b, c, d] / 2 ^ k % 256 = x.toNat) (hk : k ≤ 24) :
      (word (ofLe [a, b, c, d])).extractLsb' k 8 = x := by
    have hx := x.isLt
    have hbound : ofLe [a, b, c, d] < 2 ^ 32 := by simp only [ofLe]; omega
    refine BitVec.eq_of_toNat_eq ?_
    simp only [word, BitVec.extractLsb'_toNat, BitVec.toNat_ofNat, Nat.shiftRight_eq_div_pow,
      Nat.mod_eq_of_lt hbound]
    exact h
  simp only [le32, List.cons.injEq, and_true]
  refine ⟨extracted 0 a ?_ (by omega), extracted 8 b ?_ (by omega), extracted 16 c ?_ (by omega),
    extracted 24 d ?_ (by omega)⟩ <;> simp only [ofLe] <;> omega

theorem word_ofLe_le32 (w : Word) : word (ofLe (le32 w)) = w := by
  refine BitVec.eq_of_toNat_eq ?_
  simp only [word, ofLe, le32, BitVec.extractLsb'_toNat, BitVec.toNat_ofNat, Nat.shiftRight_eq_div_pow]
  omega

theorem le32_injective : Function.Injective le32 :=
  Function.LeftInverse.injective (g := fun bs => word (ofLe bs)) word_ofLe_le32

/-- The elements of a vector, in the order of its indices. -/
theorem toList_eq_map_getElem {α : Type} {n : Nat} (v : Vector α n) : v.toList = (List.finRange n).map (v[·]) := by
  refine List.ext_getElem (by simp) fun i _ _ => by simp

/-! ### The windows of exchange memory (R24) -/

/-- An offset of the windows that the memory itself holds: the host header, the activity list, the cards and the map
frames. -/
def stored (offset : Nat) : Prop :=
  (0x100 ≤ offset ∧ offset < 0x200) ∨ (0x1000 ≤ offset ∧ offset < 0x2000) ∨ (0x4000 ≤ offset ∧ offset < 0x20000)

theorem State.readByte_header {o : Nat} (h : o < 0x100) : s.readByte o = s.partHeader.getD o 0 := if_pos h

theorem State.readByte_stored {o : Nat} (h : stored o) : s.readByte o = s.exchange.mem.read o := by
  unfold State.readByte
  obtain h | h | h := h
  · rw [if_neg (by omega), if_pos (by omega)]
  · rw [if_neg (by omega), if_neg (by omega), if_neg (by omega), if_neg (by omega), if_pos (by omega)]
  · rw [if_neg (by omega), if_neg (by omega), if_neg (by omega), if_neg (by omega), if_neg (by omega),
      if_neg (by omega), if_neg (by omega), if_pos (show o < 0x20000 by omega)]

theorem State.readByte_entry (n : CardId) {i : Nat} (hi : i < 4) :
    s.readByte (0x200 + 4 * n.val + i) = s.exchange.directory[n].bytes.getD i 0 := by
  have hplace : (Fin.ofNat 64 ((0x200 + 4 * n.val + i - 0x200) / 4) : CardId) = n :=
    Fin.ext (by simp only [Fin.val_ofNat]; omega)
  have hbyte : (0x200 + 4 * n.val + i - 0x200) % 4 = i := by omega
  unfold State.readByte
  rw [if_neg (by omega), if_neg (by omega), if_pos (by omega)]
  simp only [hplace, hbyte]

theorem State.readByte_record (n : Tag) {i : Nat} (hi : i < 128) :
    s.readByte (0x2000 + 128 * n.val + i) = ((s.record n).bytes n).getD i 0 := by
  have hplace : (Fin.ofNat 32 ((0x2000 + 128 * n.val + i - 0x2000) / 128) : Tag) = n :=
    Fin.ext (by simp only [Fin.val_ofNat]; omega)
  have hbyte : (0x2000 + 128 * n.val + i - 0x2000) % 128 = i := by omega
  unfold State.readByte
  rw [if_neg (by omega), if_neg (by omega), if_neg (by omega), if_neg (by omega), if_neg (by omega),
    if_pos (by omega)]
  simp only [hplace, hbyte]

theorem State.readByte_unmapped {o : Nat} (h : (0x300 ≤ o ∧ o < 0x1000) ∨ (0x3000 ≤ o ∧ o < 0x4000)) :
    s.readByte o = 0 := by
  unfold State.readByte
  obtain h | h := h
  · rw [if_neg (by omega), if_neg (by omega), if_neg (by omega), if_pos (by omega)]
  · rw [if_neg (by omega), if_neg (by omega), if_neg (by omega), if_neg (by omega), if_neg (by omega),
      if_neg (by omega), if_pos (by omega)]

/-- A served read returns the four bytes at its offset. -/
theorem State.le32_hostRead (hrun : s.running) (address : BitVec 15) :
    le32 (s.hostRead address) = s.bytesAt (4 * address.toNat) 4 := by
  unfold State.hostRead
  rw [State.servedRead_running hrun, le32_word_ofLe]
  rfl

/-! ### The part header, the directory and the board table (R8, R25, R27) -/

/-- The bytes of the frame table copy, four a frame. -/
theorem State.frameBytes_getD (f : FrameId) {i : Nat} (hi : i < 4) :
    (s.coverage.frames.toList.flatMap FrameEntry.bytes).getD (4 * f.val + i) 0 = s.coverage.frames[f].bytes.getD i 0
        := by
  rw [toList_eq_map_getElem]
  interval_cases i <;> fin_cases f <;> rfl

/-- Four bytes, one by one. -/
theorem State.bytesAt_four (o : Nat) :
    s.bytesAt o 4 = [s.readByte o, s.readByte (o + 1), s.readByte (o + 2), s.readByte (o + 3)] := rfl

theorem State.frameBytes_length : (s.coverage.frames.toList.flatMap FrameEntry.bytes).length = 32 := by
  rw [toList_eq_map_getElem]
  rfl

/-- The part header up to the frame table copy. -/
theorem State.partHeader_words {i : Nat} (hi : i < 16) :
    s.partHeader.getD i 0 = (le32 Config.identity ++ le32 s.lineCtl ++ le32 s.lineTime ++
      [s.exchange.writeIndex, 0, 0, 0]).getD i 0 := by
  unfold State.partHeader
  rw [List.getD_append _ _ _ _ (by simpa using hi)]

/-- The part header from the frame table copy on. -/
theorem State.partHeader_frames (i : Nat) :
    s.partHeader.getD (16 + i) 0 = (s.coverage.frames.toList.flatMap FrameEntry.bytes).getD i 0 := by
  unfold State.partHeader
  rw [List.getD_append_right _ _ _ _ (by simp)]
  simp

theorem State.header_shown : s.showsHeader where
  words := by
    refine List.ext_getElem (by simp [State.bytesAt]) fun i hi _ => ?_
    have hbelow : i < 16 := by simpa [State.bytesAt] using hi
    simp only [State.bytesAt, List.getElem_map, List.getElem_range, Nat.zero_add]
    rw [State.readByte_header (by omega), State.partHeader_words hbelow, List.getD_eq_getElem]
  frames f := by
    have hread (i : Nat) (hi : i < 4) :
        s.readByte (0x10 + 4 * f.val + i) = s.coverage.frames[f].bytes.getD i 0 := by
      rw [State.readByte_header (by omega), Nat.add_assoc, State.partHeader_frames, State.frameBytes_getD f hi]
    have hfirst := hread 0 (by omega)
    rw [Nat.add_zero] at hfirst
    rw [State.bytesAt_four, hfirst, hread 1 (by omega), hread 2 (by omega), hread 3 (by omega)]
    simp only [FrameEntry.bytes, tagByte]
    cases s.coverage.frames[f].pass <;> rfl
  rest o hlow hhigh := by
    obtain ⟨i, rfl⟩ : ∃ i, o = 16 + i := ⟨o - 16, by omega⟩
    rw [State.readByte_header hhigh, State.partHeader_frames, List.getD_eq_default]
    rw [State.frameBytes_length]
    omega

theorem State.directory_shown (n : CardId) :
    s.bytesAt (0x200 + 4 * n.val) 4 =
      [byte s.exchange.directory[n].state.code, s.exchange.directory[n].status, 0, 0] := by
  rw [State.bytesAt_four, State.readByte_entry n (i := 1) (by omega), State.readByte_entry n (i := 2) (by omega),
    State.readByte_entry n (i := 3) (by omega)]
  exact congrArg (· :: _) (State.readByte_entry n (i := 0) (by omega))

@[simp] theorem length_le64 (w : Serial) : (le64 w).length = 8 := rfl

@[simp] theorem length_indexBytes (o : Option Nat) : (indexBytes o).length = 2 := by cases o <;> rfl

@[simp] theorem length_cellBytes (o : Option (Nat × Nat)) : (cellBytes o).length = 2 := by cases o <;> rfl

@[simp] theorem length_timeBytes (seed field : Nat) (t : Option Time) : (timeBytes seed field t).length = 4 := rfl

/-- The bytes of a serial are its eight bytes, least significant first. -/
theorem le64_eq (w : Serial) : le64 w = (List.range 8).map fun i => w.extractLsb' (8 * i) 8 := by
  have nested (k j : Nat) (h : j + 8 ≤ 32) : (w.extractLsb' k 32).extractLsb' j 8 = w.extractLsb' (k + j) 8 := by
    ext i hi
    simp [Nat.add_assoc, show j + i < 32 by omega]
  simp only [le64, le32, List.cons_append, List.nil_append]
  rw [nested 0 0 (by omega), nested 0 8 (by omega), nested 0 16 (by omega), nested 0 24 (by omega),
    nested 32 0 (by omega), nested 32 8 (by omega), nested 32 16 (by omega), nested 32 24 (by omega)]
  rfl

/-- The fields of a record that has been written, in the order of the layout of R8. -/
def BoardRecord.fieldList (t : Tag) (b : BoardRecord) : List (List Byte) :=
  [[flag b.valid, byte t.val, byte b.stage.code, byte b.pass], le64 b.serial,
    [byte b.recipe.val, byte b.verdict.code], [byte b.location.kindCode, byte b.location.slotCode],
    le32 b.reasons, [frameByte b.mapFrame, flag b.recoatOpen], indexBytes b.lastSegment,
    b.maskResults.toList.map (fun r => byte r.code),
    timeBytes b.seed 0 b.admittedTime, timeBytes b.seed 1 b.sprayStart, timeBytes b.seed 2 b.sprayEnd,
    timeBytes b.seed 3 b.ovenEntry, timeBytes b.seed 4 b.ovenExit, timeBytes b.seed 5 b.heldTime,
    timeBytes b.seed 6 b.recoatDeadline,
    le16 b.dose ++ le16 b.position ++ le16 b.conflicts, indexBytes b.firstConflict,
    le16 b.thinCells ++ le16 b.thickCells ++ cellBytes b.firstFailing, [b.timesPresent]]

theorem BoardRecord.fields_eq (t : Tag) (b : BoardRecord) : b.fields t = (b.fieldList t).flatten := by
  unfold BoardRecord.fields BoardRecord.fieldList
  simp only [List.flatten_cons, List.flatten_nil, List.append_assoc,
    List.append_nil, List.cons_append, List.nil_append]

/-- A field of a layout stands behind the fields before it. -/
theorem flatten_field {fields : List (List Byte)} {j : Nat} {field : List Byte} (hfield : fields[j]? = some field) :
    ((List.range field.length).map fun i => fields.flatten.getD ((fields.take j).flatten.length + i) 0) = field := by
  obtain ⟨hj, rfl⟩ := List.getElem?_eq_some_iff.mp hfield
  refine List.ext_getElem (by simp) fun i hi hi' => ?_
  have hsplit : fields.flatten = (fields.take j).flatten ++ (fields[j] ++ (fields.drop (j + 1)).flatten) := by
    rw [← List.flatten_cons, ← List.drop_eq_getElem_cons hj, ← List.flatten_append, List.take_append_drop]
  simp only [List.getElem_map, List.getElem_range]
  rw [hsplit, List.getD_append_right _ _ _ _ (Nat.le_add_right _ _), Nat.add_sub_cancel_left,
    List.getD_append _ _ _ _ hi', List.getD_eq_getElem]

/-- The number whose bits tell which times of a list are present. -/
def presence : List (Option Time) → Nat
  | [] => 0
  | t :: l => Nat.bit t.isSome (presence l)

theorem testBit_presence (l : List (Option Time)) (k : Nat) :
    (presence l).testBit k = match l[k]? with | some (some _) => true | _ => false := by
  induction l generalizing k with
  | nil => simp [presence]
  | cons t l ih =>
    cases k with
    | zero => cases t <;> simp [presence]
    | succ k => simpa [presence, Nat.testBit_bit_succ] using ih k

theorem BoardRecord.timesPresent_eq (b : BoardRecord) : b.timesPresent = byte (presence b.times) := by
  have weighed (t : Option Time) (n : Nat) : (if t.isSome then 2 ^ n else 0) = t.isSome.toNat * 2 ^ n := by
    cases t <;> simp
  refine congrArg byte ?_
  simp only [weighed, BoardRecord.times, presence, Nat.bit_val]
  omega

/-- Bit k of the times-present set tells whether time k is present. -/
theorem BoardRecord.timesPresent_bit (b : BoardRecord) {k : Nat} (hk : k < 8) :
    b.timesPresent.getLsbD k = match b.times[k]? with | some (some _) => true | _ => false := by
  rw [b.timesPresent_eq, byte, BitVec.getLsbD_ofNat, decide_eq_true hk, Bool.true_and, testBit_presence]

/-- A written record stands in the board table field by field. -/
theorem State.field_shown {n : Tag} (hwritten : (s.record n).written = true) (j k size : Nat)
    {field : List Byte} (hfield : ((s.record n).fieldList n)[j]? = some field) (hsize : field.length = size)
    (hplace : (((s.record n).fieldList n).take j).flatten.length = k) (hend : k + size ≤ 128) :
    s.bytesAt (0x2000 + 128 * n.val + k) size = field := by
  subst hsize
  refine Eq.trans (List.map_congr_left fun i hi => ?_) (flatten_field hfield)
  have hi : i < field.length := List.mem_range.mp hi
  rw [Nat.add_assoc, State.readByte_record n (by omega), BoardRecord.bytes, if_pos hwritten, BoardRecord.fields_eq,
    hplace]

theorem State.record_shown {n : Tag} (hwritten : (s.record n).written = true) : s.showsRecord n := by
  have hfield (j k size : Nat) {field : List Byte} := State.field_shown hwritten j k size (field := field)
  constructor
  case head => exact hfield 0 0 4 rfl rfl rfl (by omega)
  case serial => exact (hfield 1 4 8 rfl rfl rfl (by omega)).trans (le64_eq _)
  case recipe => exact hfield 2 12 2 rfl rfl rfl (by omega)
  case location =>
    refine (hfield 3 14 2 rfl rfl rfl (by omega)).trans ?_
    cases (s.record n).location with
    | none => rfl
    | removed => rfl
    | slot m =>
      simp only [Location.kindCode, Location.slotCode]
      split <;> rfl
  case reasons => exact hfield 4 16 4 rfl rfl rfl (by omega)
  case mapFrame => exact hfield 5 20 2 rfl rfl rfl (by omega)
  case lastSegment =>
    refine (hfield 6 22 2 rfl (by simp) rfl (by omega)).trans ?_
    cases (s.record n).lastSegment <;> rfl
  case masks => exact hfield 7 24 8 rfl (by simp) (by simp [BoardRecord.fieldList]) (by omega)
  case times =>
    intro k t ht
    have hk : k < 7 := (List.getElem?_eq_some_iff.mp ht).1
    have hbytes : s.bytesAt (0x2000 + 128 * n.val + (32 + 4 * k)) 4 = le32 t := by
      refine hfield (8 + k) _ _ ?_ rfl ?_ (by omega)
      · interval_cases k <;>
          simp_all [BoardRecord.times, BoardRecord.fieldList, timeBytes]
      · interval_cases k <;> simp [BoardRecord.fieldList]
    rwa [← Nat.add_assoc] at hbytes
  case present =>
    intro k hk
    have hbyte := hfield 18 74 1 rfl rfl (by simp [BoardRecord.fieldList]) (by omega)
    refine Eq.trans ?_ (BoardRecord.timesPresent_bit _ hk)
    exact congrArg (BitVec.getLsbD · k) (List.head_eq_of_cons_eq hbyte)
  case counts => exact hfield 15 60 6 rfl rfl (by simp [BoardRecord.fieldList]) (by omega)
  case firstConflict =>
    refine (hfield 16 66 2 rfl (by simp) (by simp [BoardRecord.fieldList]) (by omega)).trans ?_
    cases (s.record n).firstConflict <;> rfl
  case film =>
    refine (hfield 17 68 6 rfl (by simp) (by simp [BoardRecord.fieldList]) (by omega)).trans ?_
    cases (s.record n).firstFailing <;> rfl
  case rest =>
    intro i hlow hhigh
    rw [State.readByte_record n hhigh, BoardRecord.bytes, if_pos hwritten, BoardRecord.fields_eq,
      List.getD_eq_default]
    simpa [BoardRecord.fieldList] using hlow

/-- A record not written since POWER_ON reads as zero (R10). -/
theorem State.record_unwritten {n : Tag} (h : (s.record n).written = false) {i : Nat} (hi : i < 128) :
    s.readByte (0x2000 + 128 * n.val + i) = 0 := by
  rw [State.readByte_record n hi, BoardRecord.bytes, if_neg (by simp [h])]
  rfl

/-! ### Host writes of words (R22, R24, R27, R31) -/

theorem State.readByte_written {base i : Nat} {bs : List Byte} (hcanonical : s.canonical) (hi : i < bs.length)
    (hstored : stored (base + i)) : (s.writeMem base bs).readByte (base + i) = bs.getD i 0 := by
  rw [State.readByte_stored hstored, State.writeMem_exchange, Memory.read_writeBytes hcanonical,
    if_pos ⟨Nat.le_add_right _ _, by omega⟩, Nat.add_sub_cancel_left]

/-- A word stored at a stored offset is read there, and nothing else changes. -/
theorem State.writeWord_read (hrun : s.running) (hcanonical : s.canonical) {address : BitVec 15}
    (hstored : ∀ i < 4, stored (4 * address.toNat + i)) (data : Word) :
    (s.writeMem (4 * address.toNat) (le32 data)).hostRead address = data := by
  have hread (i : Nat) (hi : i < 4) := State.readByte_written hcanonical (bs := le32 data) hi (hstored i hi)
  have hbytes : (s.writeMem (4 * address.toNat) (le32 data)).bytesAt (4 * address.toNat) 4 = le32 data := by
    have hfirst := hread 0 (by omega)
    rw [Nat.add_zero] at hfirst
    rw [State.bytesAt_four, hfirst, hread 1 (by omega), hread 2 (by omega), hread 3 (by omega)]
    rfl
  have hword := State.le32_hostRead (s := s.writeMem (4 * address.toNat) (le32 data)) hrun address
  exact le32_injective (hword.trans hbytes)

theorem exec_hostMemoryWrite (hrun : s.running) (address : BitVec 15) (data : Word) :
    exec (.hostMemoryWrite address data) s = .next (s.hostWrite (4 * address.toNat) data) :=
  congrArg Host.Outcome.next (State.served_running hrun _)

theorem windowOf_hostHeader {o : Nat} (h : 0x100 ≤ o ∧ o < 0x200) : windowOf o = .hostHeader := if_pos h

theorem windowOf_card {n : CardId} {o : Nat} (h : inCard n o) : windowOf o = .card n := by
  simp only [inCard, cardAt] at h
  obtain ⟨-, hlow, hhigh⟩ | ⟨m, -, hlow, hhigh⟩ | ⟨m, hcard, hm⟩ | ⟨-, hout⟩ := windowOf_spec o
  · omega
  · omega
  · simp only [inCard, cardAt] at hm
    rw [hcard, show m = n from Fin.ext (by omega)]
  · omega

theorem windowOf_entry (n : CardId) : windowOf (0x200 + 4 * n.val) = .entry n := by
  obtain ⟨-, hlow, hhigh⟩ | ⟨m, hentry, hlow, hhigh⟩ | ⟨m, -, hm⟩ | ⟨-, hout⟩ := windowOf_spec (0x200 + 4 * n.val)
  · omega
  · rw [hentry, show m = n from Fin.ext (by omega)]
  · simp only [inCard, cardAt] at hm
    omega
  · omega

theorem windowOf_closed {o : Nat} (h : o < 0x100 ∨ (0x300 ≤ o ∧ o < 0x4000) ∨ 0x14000 ≤ o) :
    windowOf o = .closed := by
  obtain ⟨-, hlow, hhigh⟩ | ⟨m, -, hlow, hhigh⟩ | ⟨m, -, hm⟩ | ⟨hclosed, -⟩ := windowOf_spec o
  · omega
  · omega
  · simp only [inCard, cardAt] at hm
    omega
  · exact hclosed

theorem State.hostWrite_hostHeader {o : Nat} (h : 0x100 ≤ o ∧ o < 0x200) (data : Word) :
    s.hostWrite o data = s.writeMem o (le32 data) := by
  simp only [State.hostWrite, windowOf_hostHeader h]

theorem State.hostWrite_card {n : CardId} {o : Nat} (h : inCard n o) (data : Word) :
    s.hostWrite o data = s.writeCard n o data := by
  simp only [State.hostWrite, windowOf_card h]

theorem State.hostWrite_closed {o : Nat} (h : o < 0x100 ∨ (0x300 ≤ o ∧ o < 0x4000) ∨ 0x14000 ≤ o) (data : Word) :
    s.hostWrite o data = s.dropWrite := by
  simp only [State.hostWrite, windowOf_closed h]

theorem State.hostWrite_entry (n : CardId) (data : Word) :
    s.hostWrite (0x200 + 4 * n.val) data = s.writeEntry n (data.extractLsb' 0 8) := by
  simp only [State.hostWrite, windowOf_entry]

theorem State.writeCard_open {n : CardId}
    (h : s.exchange.directory[n].state = .free ∨ s.exchange.directory[n].state = .posted) (o : Nat) (data : Word) :
    s.writeCard n o data = s.writeMem o (le32 data) :=
  if_pos (by obtain h | h := h <;> rw [h] <;> rfl)

theorem State.writeCard_closed {n : CardId}
    (h : s.exchange.directory[n].state = .taken ∨ s.exchange.directory[n].state = .done) (o : Nat) (data : Word) :
    s.writeCard n o data = s.dropWrite :=
  if_neg (by obtain h | h := h <;> rw [h] <;> decide)

/-- The low byte of a word put together behind three others. -/
theorem lowByte_append (upper : BitVec 24) (low : Byte) : (upper ++ low : Word).extractLsb' 0 8 = low := by
  refine BitVec.eq_of_getLsbD_eq fun i hi => ?_
  have hbit : (upper ++ low).getLsbD i = low.getLsbD i := by rw [BitVec.getLsbD_append, if_pos hi]
  simpa [hi] using hbit

/-- Settles O2: the windows decide what a word write does, an entry is judged on its state and the byte written,
and a read shows each window. -/
theorem hostMemoryWritesFollowTheWindow : Obligations.HostMemoryWritesFollowTheWindow := by
  refine ⟨fun address data s hrun hcanonical => ⟨fun hopen => ?written, fun hclosed => ?dropped⟩,
    fun n data upper s hrun => ?entry, fun address s => ?reads, fun address data n upper s hidle => ?unserved⟩
  case written =>
    have hstores : s.hostWrite (4 * address.toNat) data = s.writeMem (4 * address.toNat) (le32 data) ∧
        ∀ i < 4, stored (4 * address.toNat + i) := by
      obtain hheader | ⟨n, hcard, hstate⟩ := hopen
      · exact ⟨State.hostWrite_hostHeader hheader data, fun i hi => .inl (by omega)⟩
      · refine ⟨(State.hostWrite_card hcard data).trans (State.writeCard_open hstate _ data), fun i hi => ?_⟩
        simp only [inCard, cardAt] at hcard
        exact .inr (.inr (by omega))
    obtain ⟨heffect, hstored⟩ := hstores
    refine ⟨_, (exec_hostMemoryWrite hrun address data).trans (congrArg _ heffect),
      State.writeWord_read hrun hcanonical hstored data, fun a ha => ?_, Memory.wf_writeBytes hcanonical _ _, rfl⟩
    exact Memory.read_writeBytes_outside hcanonical (by simpa using ha)
  case dropped =>
    have heffect : s.hostWrite (4 * address.toNat) data = s.dropWrite := by
      obtain hpart | hgap | hgap | ⟨n, hcard, hstate⟩ := hclosed
      · exact State.hostWrite_closed (by simp only [partWritable] at hpart; omega) data
      · exact State.hostWrite_closed (by omega) data
      · exact State.hostWrite_closed (by omega) data
      · exact (State.hostWrite_card hcard data).trans (State.writeCard_closed hstate _ data)
    exact (exec_hostMemoryWrite hrun address data).trans (congrArg _ heffect)
  case entry =>
    intro posted freed dropped
    have judged (code : Byte) : s.writeEntry n code = match s.exchange.directory[n].state, code.toNat with
        | .free, 1 => posted
        | .posted, 0 => freed
        | .done, 0 => freed
        | _, _ => dropped := by
      unfold State.writeEntry
      rfl
    have served (data : Word) : Host.Outcome.next (s.served (State.hostWrite (0x200 + 4 * n.val) data)) =
        (Host.Outcome.next (s.writeEntry n (data.extractLsb' 0 8)) : Host.Outcome State Fault Refusal) := by
      rw [State.served_running hrun, State.hostWrite_entry]
    refine ⟨?word, ?posting, fun hposted => ?withdrawal, fun hdone => ?cardReturn⟩
    case word =>
      have hoffset : 4 * (BitVec.ofNat 15 (0x80 + n.val)).toNat = 0x200 + 4 * n.val := by
        rw [BitVec.toNat_ofNat]
        omega
      rw [exec_hostMemoryWrite hrun, hoffset, State.hostWrite_entry]
      exact congrArg _ (judged _)
    case posting =>
      refine (served _).trans (congrArg _ ?_)
      rw [lowByte_append, judged]
      cases s.exchange.directory[n].state <;> rfl
    case withdrawal =>
      refine (served _).trans (congrArg _ ?_)
      rw [lowByte_append, judged, hposted]
      rfl
    case cardReturn =>
      refine (served _).trans (congrArg _ ?_)
      rw [lowByte_append, judged, hdone]
      rfl
  case reads =>
    exact ⟨fun hrun => State.le32_hostRead hrun address, State.header_shown, State.directory_shown,
      fun n => ⟨State.record_shown, fun hwritten i hi => State.record_unwritten hwritten hi⟩,
      fun o ho => State.readByte_unmapped ho⟩
  case unserved =>
    have ignored (f : State → State) :
        (Host.Outcome.next (s.served f) : Host.Outcome State Fault Refusal) = .next s :=
      congrArg _ (State.served_ignored hidle f)
    exact ⟨ignored _, ignored _, ignored _, ignored _, State.servedRead_unserved hidle _⟩

/-! ### Registers (R22, R41, R42, R44) -/

/-- A bit of a short register, read in a word. -/
theorem getLsbD_setWidth_word {w : Nat} (x : BitVec w) (hw : w ≤ 32) (i : Nat) :
    (x.setWidth 32).getLsbD i = (decide (i < w) && x.getLsbD i) := by
  rw [BitVec.getLsbD_setWidth]
  by_cases hi : i < w
  · rw [decide_eq_true hi, decide_eq_true (by omega)]
  · simp [BitVec.getLsbD_of_ge x i (by omega)]

theorem State.writeRegister_dropped {address : BitVec 15} (h : droppedPosition address = true) (data : Word) :
    s.writeRegister (address.extractLsb' 0 3) data = s.dropWrite := by
  simp only [droppedPosition, Bool.or_eq_true, beq_iff_eq] at h
  unfold State.writeRegister
  split
  case h_5 => rfl
  all_goals omega

theorem State.writeLineCtl_other {data : Word} (h : otherCode data = true) : s.writeLineCtl data = s.dropWrite := by
  simp only [otherCode, Bool.not_eq_true', Bool.or_eq_false_iff, beq_eq_false_iff_ne] at h
  obtain ⟨⟨hrun, hfreeze⟩, hdrain⟩ := h
  unfold State.writeLineCtl
  split
  case h_4 => rfl
  all_goals contradiction

theorem LineMode.code_le (m : LineMode) : m.code ≤ 5 := by cases m <;> decide

theorem faultByte_le (c : Option FaultCode) : faultByte c ≤ 4 := by
  cases c with
  | none => decide
  | some c => cases c <;> decide

/-- The fields of LINE_CTL stand in its word as they are. -/
theorem State.lineCtl_toNat : s.lineCtl.toNat =
    s.line.mode.code + 256 * faultByte s.line.firstFault + 65536 * (if s.cure.ovenStop then 1 else 0) := by
  have hmode := s.line.mode.code_le
  have hfault := faultByte_le s.line.firstFault
  rw [State.lineCtl, word, BitVec.toNat_ofNat]
  refine Nat.mod_eq_of_lt ?_
  split <;> omega

/-- Settles O3: a write by the equation of its register, a read by the word that its position holds. -/
theorem registerWritesActOnTheirBits : Obligations.RegisterWritesActOnTheirBits := by
  refine ⟨fun data address s hrun => ⟨?attn, ?startStatus, fun hother => ?otherCode, fun hposition => ?position⟩,
    fun s hrun => ?reads, fun data upper address position s hidle => ?unserved⟩
  case attn =>
    refine ⟨_, congrArg Host.Outcome.next (State.served_running hrun _), rfl, fun i => ?_⟩
    simp [State.writeRegister, State.writeAttn]
  case startStatus =>
    refine ⟨_, congrArg Host.Outcome.next (State.served_running hrun _), rfl, fun i => ?_⟩
    simp [State.writeRegister, State.writeStartStatus]
  case otherCode =>
    refine congrArg Host.Outcome.next ((State.served_running hrun _).trans ?_)
    exact State.writeLineCtl_other hother
  case position =>
    refine congrArg Host.Outcome.next ((State.served_running hrun _).trans ?_)
    exact State.writeRegister_dropped hposition data
  case reads =>
    intro mode cause
    have hread (w : Word) := State.servedRead_running hrun w
    have hlineCtl : (s.readRegister 1).toNat = mode + 256 * cause + 65536 * (if s.cure.ovenStop then 1 else 0) := by
      have hmode : mode = s.line.mode.code := by
        simp only [mode]
        cases s.line.mode <;> rfl
      have hcause : cause = faultByte s.line.firstFault := by
        simp only [cause]
        rcases s.line.firstFault with - | (- | - | - | -) <;> rfl
      rw [hmode, hcause, ← State.lineCtl_toNat]
      exact congrArg BitVec.toNat (hread s.lineCtl)
    refine ⟨hread _, hlineCtl, fun i => ⟨?_, ?_⟩, hread _, hread _, hread _⟩
    · exact (congrArg (BitVec.getLsbD · i) (hread _)).trans (getLsbD_setWidth_word _ (by omega) i)
    · exact (congrArg (BitVec.getLsbD · i) (hread _)).trans (getLsbD_setWidth_word _ (by omega) i)
  case unserved =>
    have ignored (f : State → State) :
        (Host.Outcome.next (s.served f) : Host.Outcome State Fault Refusal) = .next s :=
      congrArg _ (State.served_ignored hidle f)
    exact ⟨ignored _, ignored _, ignored _, ignored _, ignored _, ignored _, ignored _, ignored _,
      State.servedRead_unserved hidle _⟩

/-! ### The append to the activity list (R37, R39) -/

theorem State.listFull_iff : s.listFull = true ↔ s.exchange.writeIndex + 1 = s.readIndex := beq_iff_eq

theorem State.append_full (h : s.listFull = true) (e : Activity) : s.append e = s.setAttn attnOverflow := if_pos h

/-- An append to a list that is not full writes the entry at the write index. -/
theorem State.append_written (h : s.listFull = false) (e : Activity) :
    s.append e = { s with
      exchange :=
        { s.exchange with
          attn := s.exchange.attn ||| attnActivity
          writeIndex := s.exchange.writeIndex + 1
          mem := s.exchange.mem.writeBytes (entryAt s.exchange.writeIndex) (e.bytes s.lineTime) } } :=
  if_neg (by simp [h])

@[simp] theorem State.append_directory (e : Activity) : (s.append e).exchange.directory = s.exchange.directory := by
  unfold State.append
  split <;> rfl

/-- What memory reads after an append. -/
theorem State.append_read (hcanonical : s.canonical) (e : Activity) (a : Nat) :
    (s.append e).exchange.mem.read a =
      if s.listFull = false ∧ entryAt s.exchange.writeIndex ≤ a ∧ a < entryAt s.exchange.writeIndex + 16 then
        (e.bytes s.lineTime).getD (a - entryAt s.exchange.writeIndex) 0
      else s.exchange.mem.read a := by
  cases hfull : s.listFull with
  | true => simp [State.append_full hfull]
  | false =>
    rw [State.append_written hfull, Memory.read_writeBytes hcanonical, Activity.length_bytes]
    simp

theorem stored_entry (index : Byte) {i : Nat} (hi : i < 16) : stored (entryAt index + i) := by
  have hindex := index.isLt
  exact .inr (.inl (by simp only [entryAt]; omega))

/-- The sixteen bytes of an appended entry are read at its place. -/
theorem State.append_bytes (hcanonical : s.canonical) (hfull : s.listFull = false) (e : Activity) :
    (List.range 16).map (fun i => (s.append e).readByte (entryAt s.exchange.writeIndex + i)) = e.bytes s.lineTime := by
  refine List.ext_getElem (by simp [Activity.length_bytes]) fun i hi hi' => ?_
  have hlow : i < 16 := by simpa using hi
  simp only [List.getElem_map, List.getElem_range]
  rw [State.readByte_stored (stored_entry _ hlow), State.append_read hcanonical,
    if_pos ⟨hfull, by omega, by omega⟩, Nat.add_sub_cancel_left, List.getD_eq_getElem]

/-- Settles O7, by the two equations of an append. -/
theorem appendWritesTheRing : Obligations.AppendWritesTheRing := by
  refine fun e s hcanonical => ⟨fun hfull => State.append_full (State.listFull_iff.mpr hfull) e, fun hroom => ?_⟩
  intro base
  have hfull : s.listFull = false := Bool.eq_false_iff.mpr (mt State.listFull_iff.mp hroom)
  refine ⟨Activity.length_bytes e _, State.append_bytes hcanonical hfull e, fun a ha => ?_, ?_⟩
  · rw [State.append_read hcanonical, if_neg]
    simp only [entryAt]
    omega
  · rw [State.append_written hfull]
    rfl

/-! ### The completion of a card (R32, R34) -/

/-- The words of a result section. -/
def CardResult.words (r : CardResult) (hostTag : Word) : List Word :=
  word r.status.code :: (List.range 6).map (fun i => r.details.getD i 0) ++ [hostTag]

theorem CardResult.bytes_eq (r : CardResult) (hostTag : Word) :
    r.bytes hostTag = ((r.words hostTag).map le32).flatten := by
  simp [CardResult.bytes, CardResult.words, List.flatMap_def, Function.comp_def]

/-- Where the result section of a card begins. -/
def resultAt (n : CardId) : Nat := cardAt n + 992

section
variable {c : TakenCard} {rest : List TakenCard} {r : CardResult}

/-- The state of a completion before its CARD_DONE: the result section, the entry, and the card gone. -/
def State.settleCard (c : TakenCard) (rest : List TakenCard) (r : CardResult) (s : State) : State :=
  (({ s with cards := { s.cards with taken := rest } } : State).writeMem (resultAt c.index)
      (r.bytes c.hostTag)).setEntry
    c.index ⟨.done, byte r.status.code⟩

theorem State.completeCard_eq : s.completeCard c rest r =
    (s.settleCard c rest r).append (.cardDone c.index c.kind r.status c.hostTag) := rfl

theorem State.settleCard_eq : s.settleCard c rest r = { s with
    cards := { s.cards with taken := rest }
    exchange := { s.exchange with
      directory := s.exchange.directory.set c.index ⟨.done, byte r.status.code⟩
      mem := s.exchange.mem.writeBytes (resultAt c.index) (r.bytes c.hostTag) } } := by
  simp only [State.settleCard, State.setEntry, State.writeMem]

theorem State.settleCard_writeIndex : (s.settleCard c rest r).exchange.writeIndex = s.exchange.writeIndex := by
  simp only [State.settleCard, State.setEntry_exchange, State.writeMem_exchange]

theorem State.settleCard_directory : (s.settleCard c rest r).exchange.directory =
    s.exchange.directory.set c.index ⟨.done, byte r.status.code⟩ := by
  simp only [State.settleCard, State.setEntry_exchange, State.writeMem_exchange]

theorem State.settleCard_mem : (s.settleCard c rest r).exchange.mem =
    s.exchange.mem.writeBytes (resultAt c.index) (r.bytes c.hostTag) := by
  simp only [State.settleCard, State.setEntry_exchange, State.writeMem_exchange]

theorem State.settleCard_canonical (hcanonical : s.canonical) : (s.settleCard c rest r).canonical := by
  rw [State.canonical, State.settleCard_mem]
  exact Memory.wf_writeBytes hcanonical _ _

theorem State.settleCard_read (hcanonical : s.canonical) (a : Nat) :
    (s.settleCard c rest r).exchange.mem.read a =
      if resultAt c.index ≤ a ∧ a < resultAt c.index + 32 then (r.bytes c.hostTag).getD (a - resultAt c.index) 0
      else s.exchange.mem.read a := by
  rw [State.settleCard_mem, Memory.read_writeBytes hcanonical, CardResult.length_bytes]

/-- The read index of the activity list lies outside the cards. -/
theorem State.settleCard_listFull (hcanonical : s.canonical) : (s.settleCard c rest r).listFull = s.listFull := by
  have hindex : (s.settleCard c rest r).readIndex = s.readIndex := by
    refine (State.settleCard_read hcanonical _).trans (if_neg ?_)
    simp only [resultAt, cardAt, readIndexAt]
    omega
  simp only [State.listFull, hindex, State.settleCard_writeIndex]

/-- A byte of the result section after the completion. -/
theorem State.completeCard_result (hcanonical : s.canonical) {i : Nat} (hi : i < 32) :
    (s.completeCard c rest r).readByte (resultAt c.index + i) = (r.bytes c.hostTag).getD i 0 := by
  have hring := (s.settleCard c rest r).exchange.writeIndex.isLt
  have hstored : stored (resultAt c.index + i) := .inr (.inr (by simp only [resultAt, cardAt]; omega))
  rw [State.readByte_stored hstored, State.completeCard_eq, State.append_read (State.settleCard_canonical hcanonical),
    if_neg (by simp only [resultAt, cardAt, entryAt]; omega), State.settleCard_read hcanonical,
    if_pos ⟨by omega, by omega⟩, Nat.add_sub_cancel_left]

/-- Word j of the result section. -/
theorem State.completeCard_word (hcanonical : s.canonical) {j : Nat} {w : Word}
    (hw : (r.words c.hostTag)[j]? = some w) :
    (List.range 4).map (fun i => (s.completeCard c rest r).readByte (resultAt c.index + 4 * j + i)) = le32 w := by
  have hj : j < 8 := (List.getElem?_eq_some_iff.mp hw).1
  have hplace : (((r.words c.hostTag).map le32).take j).flatten.length = 4 * j := by
    interval_cases j <;> rfl
  have hfield := flatten_field (fields := (r.words c.hostTag).map le32) (j := j) (field := le32 w) (by simp [hw])
  rw [hplace, ← CardResult.bytes_eq, length_le32] at hfield
  rw [← hfield]
  refine List.map_congr_left fun i hi => ?_
  have hlow : i < 4 := List.mem_range.mp hi
  rw [Nat.add_assoc, State.completeCard_result hcanonical (by omega)]

end

/-- Settles O8: the result section, the entry and the card go first, and the append adds CARD_DONE. -/
theorem cardCompletionWritesTheResult : Obligations.CardCompletionWritesTheResult := by
  intro c rest r s hcanonical t base
  have hsettled := State.settleCard_canonical (c := c) (rest := rest) (r := r) hcanonical
  have hlist := State.settleCard_listFull (c := c) (rest := rest) (r := r) hcanonical
  have hindex := State.settleCard_writeIndex (s := s) (c := c) (rest := rest) (r := r)
  have ht : t = (s.settleCard c rest r).append (.cardDone c.index c.kind r.status c.hostTag) := rfl
  have hbase : base = resultAt c.index := rfl
  have hword (j : Nat) {w : Word} (hw : (r.words c.hostTag)[j]? = some w) :
      (List.range 4).map (fun i => t.readByte (base + 4 * j + i)) = le32 w :=
    State.completeCard_word hcanonical hw
  refine ⟨?taken, fun n => ?entry, ?status, fun k hk => ?detail, ?hostTag, fun a hresult hring => ?outside,
    fun hroom => ?written, fun hfull => ?full, ?frame⟩
  case taken => simp [ht, State.settleCard]
  case entry =>
    rw [ht, State.append_directory, State.settleCard_directory]
    by_cases hn : n = c.index
    · simp [hn]
    · rw [if_neg hn]
      exact Vector.getElem_set_ne _ _ (fun h => hn (Fin.ext h.symm))
  case status => exact hword 0 rfl
  case detail =>
    have hdetail := hword (k + 1) (w := r.details.getD k 0) (by interval_cases k <;> rfl)
    rwa [Nat.mul_add, ← Nat.add_assoc, Nat.add_right_comm] at hdetail
  case hostTag => exact hword 7 rfl
  case outside =>
    rw [ht, State.append_read hsettled, if_neg, State.settleCard_read hcanonical, if_neg]
    · omega
    · rw [hindex]
      omega
  case written =>
    have hroom : s.listFull = false := Bool.eq_false_iff.mpr (mt State.listFull_iff.mp hroom)
    have hbytes := State.append_bytes hsettled (hlist.trans hroom) (.cardDone c.index c.kind r.status c.hostTag)
    have htime : (s.settleCard c rest r).lineTime = s.lineTime := by simp [State.settleCard]
    rw [hindex, htime, ← ht] at hbytes
    refine ⟨?_, hbytes⟩
    rw [ht, State.append_written (hlist.trans hroom), ← hindex]
  case full => rw [ht, State.append_full (hlist.trans (State.listFull_iff.mpr hfull)), State.setAttn_exchange, hindex]
  case frame =>
    by_cases hfull : s.exchange.writeIndex + 1 = s.readIndex
    · rw [ht, State.append_full (hlist.trans (State.listFull_iff.mpr hfull)), if_pos hfull]
      simp only [State.setAttn, State.settleCard_eq]
      rfl
    · have hroom : s.listFull = false := Bool.eq_false_iff.mpr (mt State.listFull_iff.mp hfull)
      rw [ht, State.append_written (hlist.trans hroom), if_neg hfull]
      simp only [State.settleCard_eq]
      rfl

end Sys2Proof.Machine
end

section
/-! PROOFS. The Card Processor and the line modes: the walk that takes posted cards (R29, R30), the card that each
command completes (R33), and the requests of LINE_CTL (R168-R170). -/

namespace Sys2Proof.Machine

variable {s : State}

/-! ### The walk (R29, R30, R32) -/

theorem Memory.readBytes_eq (m : Memory) (base size : Nat) :
    m.readBytes base size = (List.range size).map fun i => m.read (base + i) := by
  induction size generalizing base with
  | zero => rfl
  | succ size ih =>
    rw [Memory.readBytes, ih, List.range_succ_eq_map, List.map_cons, List.map_map]
    refine congrArg _ (List.map_congr_left fun i _ => ?_)
    simp only [Function.comp_apply]
    congr 1
    omega

/-- Bytes of a card, as the host would read them. -/
theorem State.cardBytes (n : CardId) (first size : Nat) (hsize : first + size ≤ 1024) :
    s.exchange.mem.readBytes (cardAt n + first) size = (List.range size).map fun i => s.readByte
        (cardAt n + first + i) := by
  rw [Memory.readBytes_eq]
  refine List.map_congr_left fun i hi => ?_
  have hlow := List.mem_range.mp hi
  exact (State.readByte_stored (.inr (.inr (by simp only [cardAt]; omega)))).symm

/-- Two bytes spell the number whose bytes they are. -/
theorem le16_ofLe (a b : Byte) : le16 (BitVec.ofNat 16 (ofLe [a, b])).toNat = [a, b] := by
  have ha := a.isLt
  have hb := b.isLt
  have hvalue : (BitVec.ofNat 16 (ofLe [a, b])).toNat = a.toNat + 256 * b.toNat := by
    simp only [BitVec.toNat_ofNat, ofLe]
    omega
  rw [hvalue, le16]
  refine congrArg₂ (fun x y : Byte => [x, y]) ?_ ?_
  · refine BitVec.eq_of_toNat_eq ?_
    simp only [byte, BitVec.toNat_ofNat]
    omega
  · refine BitVec.eq_of_toNat_eq ?_
    simp only [byte, BitVec.toNat_ofNat]
    omega

/-- A taken card holds its bytes as they stand in exchange memory. -/
theorem State.takeCard_reads (n : CardId) :
    (s.exchange.mem.takeCard n).kind = s.readByte (cardAt n) ∧
      le32 (s.exchange.mem.takeCard n).hostTag = (List.range 4).map (fun i => s.readByte (cardAt n + 4 + i)) ∧
      le16 (s.exchange.mem.takeCard n).bodyLength.toNat =
        (List.range 2).map (fun i => s.readByte (cardAt n + 8 + i)) ∧
      (s.exchange.mem.takeCard n).body = (List.range (min 976 (s.exchange.mem.takeCard n).bodyLength.toNat)).map
        fun i => s.readByte (cardAt n + 16 + i) := by
  refine ⟨?kind, ?hostTag, ?length, ?body⟩
  case kind => exact (State.readByte_stored (.inr (.inr (by simp only [cardAt]; omega)))).symm
  case hostTag =>
    rw [← State.cardBytes n 4 4 (by omega)]
    exact le32_word_ofLe _ _ _ _
  case length =>
    rw [← State.cardBytes n 8 2 (by omega)]
    exact le16_ofLe _ _
  case body =>
    rw [← State.cardBytes n 16 _ (by omega)]
    rfl

/-- The cards that a walk takes: those of the POSTED entries it visits, in order. -/
def State.takenNow (s : State) (first visits : Nat) : List TakenCard :=
  (s.postedCards.filter fun n => decide (first ≤ n.val) && decide (n.val < first + visits)).map s.exchange.mem.takeCard

theorem State.takenNow_index (first visits : Nat) : (s.takenNow first visits).map (·.index) =
    s.postedCards.filter fun n => decide (first ≤ n.val) && decide (n.val < first + visits) := by
  rw [State.takenNow, List.map_map]
  exact List.map_id _

theorem State.mem_takenNow_index (first visits : Nat) (n : CardId) :
    n ∈ (s.takenNow first visits).map (·.index) ↔
      (first ≤ n.val ∧ n.val < first + visits) ∧ s.exchange.directory[n].state = .posted := by
  rw [State.takenNow_index]
  simp [State.postedCards, allCards]

theorem State.takenNow_sorted (first visits : Nat) :
    ((s.takenNow first visits).map (·.index)).Pairwise (· < ·) := by
  rw [State.takenNow_index]
  exact ((List.pairwise_lt_finRange 64).filter _).filter _

theorem State.walk_taken (first visits : Nat) :
    (s.walk first visits).cards.taken = s.cards.taken ++ s.takenNow first visits := rfl

theorem State.walk_visiting (first visits : Nat) (n : CardId) :
    (s.walk first visits).cards.visiting = some n ↔ n.val = first + visits := by
  have hn := n.isLt
  simp only [State.walk]
  split
  next hmore =>
    rw [Option.some_inj, Fin.ext_iff, Fin.val_ofNat, Nat.mod_eq_of_lt hmore, eq_comm]
  next => simp; omega

/-- Settles O6: a scan is a walk from its first entry, whose effects are those of the walk's equations. -/
theorem scanTakesPostedCards : Obligations.ScanTakesPostedCards := by
  refine fun s visits hrun => ⟨fun first pending hstart => ?walks, fun hover hidle => ?idle⟩
  case walks =>
    intro here
    have hscan : exec (.scan visits) s =
        .next (({ s with exchange := { s.exchange with scanPending := pending } } : State).walk first visits) := by
      refine congrArg Host.Outcome.next ((State.live_running hrun _).trans ?_)
      obtain ⟨hcards, hpending, rfl, rfl⟩ | ⟨n, hvisiting, rfl, rfl⟩ := hstart
      · have hidle : s.cardsIdle = true := by simp [State.cardsIdle, hcards]
        have hvisiting : s.cards.visiting = none := by simp [hcards]
        simp only [hvisiting, hidle, hpending, Bool.and_self, if_true]
        rfl
      · simp only [hvisiting]
    refine ⟨_, s.takenNow first visits, hscan, State.walk_taken first visits,
      State.walk_visiting first visits, fun n => ?_, State.takenNow_sorted first visits,
      State.mem_takenNow_index first visits, fun c hc => ?_, State.walk_keeps _ first visits⟩
    · rw [State.walk_entry]
      simp only [DirectoryEntry.visit, here]
      split_ifs <;> simp_all
    · obtain ⟨n, -, rfl⟩ := List.mem_map.mp hc
      exact State.takeCard_reads n
  case idle =>
    refine congrArg Host.Outcome.next ((State.live_running hrun _).trans ?_)
    simp only [hover]
    refine if_neg ?_
    obtain htaken | hpending := hidle
    · simp [State.cardsIdle, htaken]
    · simp [hpending]

/-! ### The card that a command completes (R33) -/

/-- The cards that a card command processes. -/
def Instr.cardFits : Instr → TakenCard → Bool
  | .refusedKind => TakenCard.unknownKind
  | .applicatorLoad => TakenCard.isKind 1
  | .coatingLoad => TakenCard.isKind 2
  | .recipeLoad => TakenCard.isKind 3
  | .pathLoad => TakenCard.isKind 4
  | .patchSet => TakenCard.isKind 5
  | .patchClear => TakenCard.isKind 6
  | .ovenLoad => TakenCard.isKind 7
  | .admitCard => TakenCard.isKind 8
  | .withdrawCard => TakenCard.isKind 9
  | .disposeRelease => TakenCard.isDispose .release
  | .disposeScrap => TakenCard.isDispose .scrap
  | .disposeRecoat => TakenCard.isDispose .recoat
  | .reclaimMap => TakenCard.isKind 11
  | .declareClear => TakenCard.isKind 12
  | .resumeCell => TakenCard.isKind 13
  | _ => fun _ => false

section
variable {i : Instr} {apply : TakenCard → State → State × CardResult}

theorem exec_processCard (h : Instr.cardEffect i = some apply) (s : State) :
    exec i s = .next (s.processCard (Instr.cardFits i) apply) := by
  cases i <;> cases h <;> rfl

/-- A card command whose card is next applies and completes it. -/
theorem exec_nextCard (heffect : Instr.cardEffect i = some apply) {c : TakenCard} {rest : List TakenCard}
    (hnext : s.nextCard c rest) (hfits : Instr.cardFits i c = true) :
    exec i s = .next ((apply c s).1.completeCard c rest (apply c s).2) :=
  (exec_processCard heffect s).trans (congrArg _ (State.processCard_next hnext hfits apply))

/-- A judged card that is not completed with OK has no effect. -/
theorem judge_ok {checks : List Check} {f : State → State × CardResult} (hf : (f s).2.status = .ok)
    (hstatus : (judge checks f s).2.status ≠ .ok) : (judge checks f s).1 = s := by
  obtain ⟨r, hrefused⟩ | ⟨-, hpassed⟩ := judge_cases checks f s
  · rw [hrefused]
  · exact absurd (hpassed ▸ hf) hstatus

/-- A card that is not completed with OK has no effect, but for a path that finds no room. -/
theorem Instr.cardEffect_refused (heffect : Instr.cardEffect i = some apply) (c : TakenCard)
    (hstatus : (apply c s).2.status ≠ .ok) :
    (apply c s).1 = s ∨ (i = .pathLoad ∧ (apply c s).2.status = .refusedFull) := by
  cases i <;> cases heffect
  case refusedKind => exact .inl rfl
  case pathLoad =>
    unfold applyPath at hstatus ⊢
    obtain ⟨r, hrefused⟩ | ⟨-, hpassed⟩ := judge_cases (c.pathChecks ++ [s.chunkCheck c]) (fun s => s.loadChunk c) s
    · exact .inl (by rw [hrefused])
    · rw [hpassed] at hstatus ⊢
      revert hstatus
      unfold State.loadChunk
      dsimp only
      split
      · exact fun _ => .inr ⟨rfl, rfl⟩
      · exact fun hstatus => absurd rfl hstatus
  case patchSet =>
    unfold applyPatchSet at hstatus ⊢
    obtain ⟨r, hrefused⟩ | ⟨-, hpassed⟩ := judge_cases (s.patchSetChecks c) _ s
    · exact .inl (by rw [hrefused])
    · rw [hpassed] at hstatus ⊢
      revert hstatus
      split
      · exact fun _ => .inl rfl
      · exact fun hstatus => absurd rfl hstatus
  case withdrawCard =>
    unfold applyWithdraw at hstatus ⊢
    obtain ⟨r, hrefused⟩ | ⟨-, hpassed⟩ := judge_cases [(c.badLength 8, refusedAt 8)] _ s
    · exact .inl (by rw [hrefused])
    · rw [hpassed] at hstatus ⊢
      revert hstatus
      split
      · exact fun _ => .inl rfl
      · exact fun hstatus => absurd rfl hstatus
  case patchClear =>
    refine .inl (judge_ok ?_ hstatus)
    split <;> rfl
  case reclaimMap =>
    refine .inl (judge_ok ?_ hstatus)
    split <;> rfl
  all_goals exact .inl (judge_ok rfl hstatus)

/-- The card commands for the twelve kinds other than DISPOSE, and for its three actions. -/
theorem Instr.cardEffect_of_kind {c : TakenCard}
    (h : (i, c.kind.toNat) ∈ [(Instr.applicatorLoad, 1), (.coatingLoad, 2), (.recipeLoad, 3), (.pathLoad, 4),
      (.patchSet, 5), (.patchClear, 6), (.ovenLoad, 7), (.admitCard, 8), (.withdrawCard, 9), (.reclaimMap, 11),
      (.declareClear, 12), (.resumeCell, 13)] ∨
      (c.kind.toNat = 10 ∧ (i, c.u8 17) ∈ [(Instr.disposeRelease, 1), (.disposeScrap, 2), (.disposeRecoat, 3)])) :
    ∃ apply, Instr.cardEffect i = some apply ∧ Instr.cardFits i c = true := by
  simp only [List.mem_cons, List.not_mem_nil, or_false, Prod.mk.injEq] at h
  have hkind {k : Nat} (hk : c.kind.toNat = k) : c.isKind k = true := beq_iff_eq.mpr hk
  have hdispose {a : Action} (h10 : c.kind.toNat = 10) (hcode : c.u8 17 = a.code) : c.isDispose a = true := by
    simp [TakenCard.isDispose, hkind h10, hcode]
  rcases h with (⟨rfl, hk⟩ | ⟨rfl, hk⟩ | ⟨rfl, hk⟩ | ⟨rfl, hk⟩ | ⟨rfl, hk⟩ | ⟨rfl, hk⟩ | ⟨rfl, hk⟩ | ⟨rfl, hk⟩ |
    ⟨rfl, hk⟩ | ⟨rfl, hk⟩ | ⟨rfl, hk⟩ | ⟨rfl, hk⟩) | ⟨h10, ⟨rfl, hcode⟩ | ⟨rfl, hcode⟩ | ⟨rfl, hcode⟩⟩
  case inr.inl => exact ⟨_, rfl, hdispose h10 hcode⟩
  case inr.inr.inl => exact ⟨_, rfl, hdispose h10 hcode⟩
  case inr.inr.inr => exact ⟨_, rfl, hdispose h10 hcode⟩
  all_goals exact ⟨_, rfl, hkind hk⟩

theorem State.processCard_waits (hrun : s.running) (hidle : s.cards.visiting ≠ none ∨ s.cards.taken = [])
    (fits : TakenCard → Bool) : s.processCard fits apply = s := by
  rw [State.processCard, State.live_running hrun]
  split
  next hvisiting htaken => simp [hvisiting, htaken] at hidle
  next => rfl

end

/-- Settles O9: each command is the processing of the next card, and the judgement of each kind has an effect only
with OK. -/
theorem cardsAreProcessedInTurn : Obligations.CardsAreProcessedInTurn := by
  refine ⟨fun s c rest cmd hnext hkind => ?completes, fun s c rest hnext hkind => ?unknown,
    fun s cmd hrun hidle hcmd => ?waits⟩
  case completes =>
    obtain ⟨apply, heffect, hfits⟩ := Instr.cardEffect_of_kind hkind
    exact ⟨(apply c s).1, (apply c s).2, exec_nextCard heffect hnext hfits, Instr.cardEffect_refused heffect c⟩
  case unknown =>
    have hfits : c.unknownKind = true := by
      rw [TakenCard.unknownKind, outside_eq_true_iff, within]
      omega
    rw [exec_nextCard (i := .refusedKind) rfl hnext hfits]
    simp only [result, List.map_cons, List.map_nil, word, BitVec.ofNat_toNat]
  case waits =>
    simp only [List.mem_cons, List.not_mem_nil, or_false] at hcmd
    have hwaits {apply : TakenCard → State → State × CardResult} (heffect : Instr.cardEffect cmd = some apply) :
        exec cmd s = .next s :=
      (exec_processCard heffect s).trans (congrArg _ (State.processCard_waits hrun hidle _))
    rcases hcmd with rfl | rfl | rfl | rfl | rfl | rfl | rfl | rfl | rfl | rfl | rfl | rfl | rfl | rfl | rfl | rfl
    all_goals exact hwaits rfl

/-! ### The stages of the records, and the line empty report (R11, R170) -/

/-- The validity and the stage of each record. -/
def State.stages (s : State) : Vector (Bool × Stage) 32 := s.tracker.boards.map fun b => (b.valid, b.stage)

theorem State.stages_of_boards {t : State} (h : t.tracker.boards = s.tracker.boards) : t.stages = s.stages := by
  rw [State.stages, State.stages, h]

/-- A change of a record that leaves its validity and stage. -/
theorem State.stages_modifyRecord (n : Tag) {f : BoardRecord → BoardRecord}
    (hf : ∀ b, (f b).valid = b.valid ∧ (f b).stage = b.stage) : (s.modifyRecord n f).stages = s.stages := by
  refine Vector.ext fun i hi => ?_
  have hrecord := State.record_modifyRecord s n ⟨i, hi⟩ f
  simp only [State.stages, Vector.getElem_map]
  refine (congrArg (fun b : BoardRecord => (b.valid, b.stage)) hrecord).trans ?_
  split
  next hin =>
    subst hin
    exact congrArg₂ Prod.mk (hf _).1 (hf _).2
  next => rfl

theorem State.lineEmpty_iff :
    s.lineEmpty = true ↔ ∀ n : Tag, (s.record n).valid = true → (s.record n).stage = .held := by
  have hstage (v : Stage) : v.transport = false ↔ v = .held := by cases v <;> simp [Stage.transport]
  simp [State.lineEmpty, allTags, BoardRecord.inTransport, hstage, imp_iff_not_or]

theorem State.lineEmpty_of_stages {t : State} (h : t.stages = s.stages) : t.lineEmpty = s.lineEmpty := by
  have hrecord (n : Tag) : (t.record n).valid = (s.record n).valid ∧ (t.record n).stage = (s.record n).stage := by
    have hn := congrArg (fun v : Vector (Bool × Stage) 32 => v[n]) h
    simpa [State.stages, State.record] using hn
  rw [Bool.eq_iff_iff, State.lineEmpty_iff, State.lineEmpty_iff]
  simp only [hrecord]

@[simp] theorem State.append_stages (e : Activity) : (s.append e).stages = s.stages := State.stages_of_boards (by simp)

@[simp] theorem State.driveGate_stages : s.driveGate.stages = s.stages := State.stages_of_boards (by simp)

@[simp] theorem State.driveLoader_stages : s.driveLoader.stages = s.stages :=
  State.stages_of_boards (State.driveLoader_boards s)

@[simp] theorem State.setCell_stages (v : CellState) (c : Option StopCause) : (s.setCell v c).stages = s.stages :=
  State.stages_of_boards (by simp)

@[simp] theorem State.sendSegment_stages (n : Tag) : (s.sendSegment n).stages = s.stages :=
  State.stages_of_boards (by simp)

@[simp] theorem State.mapSequencer_stages (f : Sequencer → Sequencer) : (s.mapSequencer f).stages = s.stages := rfl

@[simp] theorem State.evaluated_stage (b : BoardRecord) (e : Evaluation) :
    (b.evaluated e).valid = b.valid ∧ (b.evaluated e).stage = b.stage := by
  simp only [BoardRecord.evaluated, BoardRecord.addReasonIf]
  split_ifs <;> exact ⟨rfl, rfl⟩

@[simp] theorem State.pathEnd_stages (n : Tag) (e : PathEnd) : (s.pathEnd n e).stages = s.stages := by
  unfold State.pathEnd
  dsimp only
  refine (State.stages_of_boards (s := s.modifyRecord n fun b =>
    { b.evaluated (s.evaluation n) with sprayEnd := some s.lineTime }) (by simp)).trans ?_
  exact State.stages_modifyRecord n fun b => State.evaluated_stage b _

@[simp] theorem State.pressureCheck_stages (n : Tag) (a : ApplicatorId) : (s.pressureCheck n a).stages = s.stages := by
  unfold State.pressureCheck
  split <;> simp

@[simp] theorem State.fetch_stages (n : Tag) : (s.fetch n).stages = s.stages := by
  have hindex : (s.modifyRecord n fun b => { b with lastSegment := some s.sequencer.index }).stages = s.stages :=
    State.stages_modifyRecord n fun b => ⟨rfl, rfl⟩
  have hconflict (u : State) (i : Nat) : (u.modifyRecord n (BoardRecord.conflict i)).stages = u.stages :=
    State.stages_modifyRecord n fun b => ⟨rfl, rfl⟩
  unfold State.fetch
  dsimp only
  split
  · simp [hindex]
  · split
    · simp [hindex]
    · split <;> simp [hconflict, hindex]

@[simp] theorem State.leavePaused_stages : s.leavePaused.stages = s.stages := by
  unfold State.leavePaused
  (repeat' split) <;> simp

/-- What a line empty report does at the end of an event. -/
theorem State.reportEmpty_endsDrain : s.endsDrain (s.lineEmpty = true) s.reportEmpty := by
  have hready : s.changeMode .ready = (s.enterMode .ready).driveGate := by
    have hmode : (s.enterMode .ready).line.mode = .ready := by simp [State.enterMode]
    have hcell : (s.enterMode .ready).cellOnMode = s.enterMode .ready := by simp [State.cellOnMode, hmode]
    exact congrArg State.driveGate hcell
  refine ⟨fun hdrain hempty => ?_, fun hother => ?_⟩
  · rw [State.reportEmpty, if_pos ⟨hdrain, hempty⟩, hready]
  · rw [State.reportEmpty, if_neg]
    rintro ⟨hdrain, hempty⟩
    exact hother.elim (· hdrain) (· hempty)

/-! ### Requests for a mode (R101, R102, R168, R169) -/

theorem State.pressureReady_iff (a : ApplicatorId) : s.pressureReady a = true ↔ s.sprays a := by
  simp [State.pressureReady, State.sprays, State.monitor]

/-- Leaving PAUSED, with the mode RUN or DRAIN (R102). -/
theorem State.leavePaused_resumes (hmode : s.line.mode.spraying = true) : s.cellResumes s.leavePaused := by
  refine ⟨fun hstands => ?_, fun n hpaused hclosed hboard => ?_⟩
  · unfold State.leavePaused
    split
    · rfl
    next n hboard =>
      refine if_neg ?_
      rintro ⟨hpaused, -, hclosed⟩
      simp [hpaused, hclosed, hboard] at hstands
  · have hleaves : s.sequencer.cell = .paused ∧ s.line.mode.spraying = true ∧ s.sequencer.guard = .closed :=
      ⟨hpaused, hmode, hclosed⟩
    refine ⟨fun hwet => ?_, fun a hwet => ⟨fun hready => ?_, fun hout => ?_⟩⟩ <;>
      simp only [Sequencer.wetSegment] at hwet <;> unfold State.leavePaused <;>
      simp only [hboard, if_pos hleaves, hwet]
    · rw [if_pos (State.pressureReady_iff a |>.mpr hready)]
    · rw [if_neg (mt (State.pressureReady_iff a).mp hout)]

@[simp] theorem State.enterMode_line (m : LineMode) : (s.enterMode m).line = ⟨m, s.line.firstFault⟩ := by
  simp [State.enterMode]

@[simp] theorem State.enterMode_stages (m : LineMode) : (s.enterMode m).stages = s.stages :=
  (State.driveLoader_stages).trans (State.append_stages _)

/-- The parts that the entry into a mode leaves. -/
@[simp] theorem State.enterMode_keeps (m : LineMode) :
    (s.enterMode m).pending = s.pending ∧ (s.enterMode m).lineTime = s.lineTime ∧ (s.enterMode m).cards = s.cards ∧
      (s.enterMode m).tables = s.tables ∧ (s.enterMode m).verifier = s.verifier ∧
      (s.enterMode m).sequencer = s.sequencer ∧ (s.enterMode m).coverage = s.coverage ∧
      (s.enterMode m).cure = s.cure ∧ (s.enterMode m).holds = s.holds := by
  simp [State.enterMode]

/-- A mode change is the entry into the mode, the cell's answer and the gate's. -/
theorem State.changeMode_eq (m : LineMode) : s.changeMode m = (s.enterMode m).cellOnMode.driveGate := rfl

/-- What a mode request leaves, and the mode it records. -/
def State.entered (s t : State) (mode : LineMode) : Prop :=
  t.line = ⟨mode, s.line.firstFault⟩ ∧ t.tables = s.tables ∧ t.cards = s.cards ∧ t.holds = s.holds ∧
    t.verifier = s.verifier ∧ t.coverage = s.coverage ∧ t.lineTime = s.lineTime ∧ t.pending = s.pending

theorem State.changeMode_entered (m : LineMode) : s.entered (s.changeMode m) m := by
  simp [State.entered, State.changeMode_eq]

theorem State.entered.trans {t u : State} {m k : LineMode} (h : s.entered t m) (hu : t.entered u k) :
    s.entered u k := by
  obtain ⟨hline, htables, hcards, hholds, hverifier, hcoverage, htime, hpending⟩ := h
  obtain ⟨uline, utables, ucards, uholds, uverifier, ucoverage, utime, upending⟩ := hu
  exact ⟨by rw [uline, hline], utables.trans htables, ucards.trans hcards, uholds.trans hholds,
    uverifier.trans hverifier, ucoverage.trans hcoverage, utime.trans htime, upending.trans hpending⟩

/-- A request that is taken outside DRAIN ends with its mode. -/
theorem State.requestMode_taken {m : LineMode} (htakes : s.takesRequest m = true) (hm : m ≠ .drain) :
    s.requestMode m = s.changeMode m := by
  rw [State.requestMode, if_pos htakes, State.reportEmpty, if_neg]
  rintro ⟨hmode, -⟩
  rw [(State.changeMode_entered m).1] at hmode
  exact hm hmode

theorem State.requestMode_dropped {m : LineMode} (htakes : s.takesRequest m = false) :
    s.requestMode m = s.setAttn attnRefused := if_neg (by simp [htakes])

theorem State.writeRegister_request (upper : BitVec 24) {code : Byte} {m : LineMode}
    (hcode : (code = 1 ∧ m = .run) ∨ (code = 2 ∧ m = .freeze) ∨ (code = 3 ∧ m = .drain)) :
    s.writeRegister 1 (upper ++ code) = s.requestMode m := by
  have hposition : s.writeRegister 1 (upper ++ code) = s.writeLineCtl (upper ++ code) := rfl
  rw [hposition, State.writeLineCtl, lowByte_append]
  rcases hcode with ⟨rfl, rfl⟩ | ⟨rfl, rfl⟩ | ⟨rfl, rfl⟩ <;> rfl

/-- The cell's answer to RUN and to DRAIN. -/
theorem State.enterMode_resumes {m : LineMode} (hm : m = .run ∨ m = .drain) :
    (s.enterMode m).cellResumes (s.enterMode m).cellOnMode := by
  have hspraying : (s.enterMode m).line.mode.spraying = true := by
    rw [State.enterMode_line]
    rcases hm with rfl | rfl <;> rfl
  have hcell : (s.enterMode m).cellOnMode = (s.enterMode m).leavePaused := by
    rcases hm with rfl | rfl <;> simp [State.cellOnMode]
  rw [hcell]
  exact State.leavePaused_resumes hspraying

/-- The line is as empty after a change into DRAIN as before it. -/
theorem State.changeMode_drain_lineEmpty : (s.changeMode .drain).lineEmpty = s.lineEmpty := by
  refine State.lineEmpty_of_stages ?_
  have hcell : (s.enterMode .drain).cellOnMode = (s.enterMode .drain).leavePaused := by simp [State.cellOnMode]
  rw [State.changeMode_eq, State.driveGate_stages, hcell, State.leavePaused_stages, State.enterMode_stages]

theorem State.loaderCondition_iff : s.loaderCondition = true ↔
    s.line.mode = .run ∧ s.tracker.mask = [] ∧ ∃ n, (s.record n).valid = false := by
  simp [State.loaderCondition, State.freeTags, allTags, and_assoc]

theorem State.driveLoader_eq : s.driveLoader = { s with
    tracker := { s.tracker with loaderReady := s.loaderCondition }
    ports := { s.ports with
      station := if s.tracker.loaderReady = s.loaderCondition then s.ports.station
        else s.ports.station.issue (.loaderReady s.loaderCondition) } } := by
  unfold State.driveLoader
  by_cases h : s.tracker.loaderReady = s.loaderCondition
  · rw [if_pos (beq_iff_eq.mpr h), if_pos h, ← h]
  · rw [if_neg (by simpa using h), if_neg h]
    rfl

/-- Settles O5: the table of requests, and the equations of a mode change. -/
theorem lineCtlRequestsFollowTheModeTable : Obligations.LineCtlRequestsFollowTheModeTable := by
  refine ⟨fun upper s hrun => ?requests, fun s => State.lineEmpty_iff, fun s => State.loaderCondition_iff,
    fun s => State.driveLoader_eq⟩
  intro dropped taken
  have requested {code : Byte} {m : LineMode}
      (hcode : (code = 1 ∧ m = .run) ∨ (code = 2 ∧ m = .freeze) ∨ (code = 3 ∧ m = .drain)) :
      Host.Outcome.next (s.served (State.writeRegister 1 (upper ++ code))) =
        (Host.Outcome.next (s.requestMode m) : Host.Outcome State Fault Refusal) := by
    rw [State.served_running hrun, State.writeRegister_request upper hcode]
  have hrunning : exec (.lineCtlRun upper) s = .next (s.requestMode .run) := requested (.inl ⟨rfl, rfl⟩)
  have hfreezing : exec (.lineCtlFreeze upper) s = .next (s.requestMode .freeze) := requested (.inr (.inl ⟨rfl, rfl⟩))
  have hdraining : exec (.lineCtlDrain upper) s = .next (s.requestMode .drain) := requested (.inr (.inr ⟨rfl, rfl⟩))
  refine ⟨⟨fun htaken => ?run, fun hrefused => ?runRefused⟩, ⟨fun htaken => ?freeze, fun hrefused => ?freezeRefused⟩,
    fun htaken => ?drain, fun hnotRun hnotFreeze => ?drainRefused⟩
  case run =>
    have htakes : s.takesRequest .run = true := by
      obtain ⟨hmode, hoven⟩ | hmode | hmode := htaken <;> simp [State.takesRequest, hmode]
      exact hoven
    rw [hrunning, State.requestMode_taken htakes (by decide)]
    exact ⟨_, _, rfl, State.changeMode_entered .run, State.enterMode_resumes (.inl rfl), rfl⟩
  case runRefused =>
    have htakes : s.takesRequest .run = false := by
      obtain ⟨hmode, hoven⟩ | hmode | hmode | hmode := hrefused <;> simp [State.takesRequest, hmode]
      exact hoven
    rw [hrunning, State.requestMode_dropped htakes]
    rfl
  case freeze =>
    have htakes : s.takesRequest .freeze = true := by simp [State.takesRequest, htaken]
    rw [hfreezing, State.requestMode_taken htakes (by decide)]
    refine ⟨_, rfl, State.changeMode_entered .freeze, ?_⟩
    simp [State.changeMode_eq, State.cellOnMode]
  case freezeRefused =>
    have htakes : s.takesRequest .freeze = false := by
      cases hmode : s.line.mode <;> simp_all [State.takesRequest]
    rw [hfreezing, State.requestMode_dropped htakes]
    rfl
  case drain =>
    have htakes : s.takesRequest .drain = true := by
      obtain hmode | hmode := htaken <;> simp [State.takesRequest, hmode]
    rw [hdraining, State.requestMode, if_pos htakes]
    have hends := State.reportEmpty_endsDrain (s := s.changeMode .drain)
    rw [State.changeMode_drain_lineEmpty] at hends
    refine ⟨_, _, rfl, ?_, State.enterMode_resumes (.inr rfl), hends⟩
    have hdrain : (s.changeMode .drain).line.mode = .drain := by rw [(State.changeMode_entered _).1]
    by_cases hempty : s.lineEmpty = true
    · rw [if_pos hempty, State.reportEmpty, if_pos ⟨hdrain, State.changeMode_drain_lineEmpty.trans hempty⟩]
      exact (State.changeMode_entered .drain).trans (State.changeMode_entered .ready)
    · rw [if_neg hempty, State.reportEmpty, if_neg]
      · exact State.changeMode_entered .drain
      · rintro ⟨-, h⟩
        exact hempty (State.changeMode_drain_lineEmpty.symm.trans h)
  case drainRefused =>
    have htakes : s.takesRequest .drain = false := by
      cases hmode : s.line.mode <;> simp_all [State.takesRequest]
    rw [hdraining, State.requestMode_dropped htakes]
    rfl

end Sys2Proof.Machine
end

section
/-! PROOFS. The Table Store's cards (chapter 3): a judged card is refused behind the checks that pass, or applied;
the checks let a body in range through; and each kind's outcomes. -/

namespace Sys2Proof.Machine

variable {s : State} {c : TakenCard} {rest : List TakenCard}

/-! ### A judged card (R33) -/

section
variable {i : Instr} {apply : TakenCard → State → State × CardResult} {checks : List Check}
  {f : State → State × CardResult}

/-- A judged card is refused behind checks that pass, and then has no effect. -/
theorem exec_judged_refused (heffect : Instr.cardEffect i = some apply) (hnext : s.nextCard c rest)
    (hfits : Instr.cardFits i c = true) (happly : apply c s = judge checks f s) {before after : List Check}
    {refuses : Bool} {r : CardResult} (hchecks : checks = before ++ (refuses, r) :: after) (hpass : allPass before)
    (hrefuses : refuses = true) : exec i s = .next (s.completeCard c rest r) := by
  obtain rfl := hrefuses
  rw [exec_nextCard heffect hnext hfits, happly, hchecks, judge_refused hpass]

/-- A judged card whose checks all pass is applied. -/
theorem exec_judged_applied (heffect : Instr.cardEffect i = some apply) (hnext : s.nextCard c rest)
    (hfits : Instr.cardFits i c = true) (happly : apply c s = judge checks f s) (hpass : allPass checks) :
    exec i s = .next ((f s).1.completeCard c rest (f s).2) := by
  rw [exec_nextCard heffect hnext hfits, happly, judge_passed hpass]

end

theorem TakenCard.isKind_of {k : Byte} (h : c.kind = k) : c.isKind k.toNat = true := by
  rw [TakenCard.isKind, h, beq_self_eq_true]

theorem TakenCard.byteAt_eq_zero_iff (offset : Nat) : (c.u8 offset == 0) = true ↔ c.byteAt offset = 0 := by
  rw [beq_iff_eq, TakenCard.u8]
  exact ⟨fun h => BitVec.eq_of_toNat_eq h, fun h => by rw [h]; rfl⟩

/-! ### APPLICATOR_LOAD (R48-R50) -/

theorem TakenCard.applicatorChecks_pass (h : c.applicatorFits) : allPass c.applicatorChecks := by
  have hmask : (c.u8 23 == 0) = false :=
    Bool.eq_false_iff.mpr fun hzero => h.slotMask ((TakenCard.byteAt_eq_zero_iff 23).mp hzero)
  simp only [TakenCard.applicatorChecks, allPass_cons, rangeCheck_passes_iff, TakenCard.badLength_eq_false_iff]
  exact ⟨h.length, ⟨Nat.zero_le _, h.index⟩, h.kind, h.flow, h.nominal, h.efficiency, hmask,
    ⟨Nat.zero_le _, h.bandLow⟩, h.bandHigh, h.mode, allPass_nil⟩

/-- The mode of a card in range is WARN for code 1, and INTERLOCK for code 2. -/
theorem TakenCard.applicator_mode (h : within (c.u8 28) 1 2) :
    monitorModeOf (c.u8 28) = (if c.u8 28 = 1 then .warn else .interlock) ∧
      (c.applicator.mode == .warn) = (c.u8 28 == 1) ∧ (c.applicator.mode == .interlock) = (c.u8 28 == 2) := by
  have hcode : c.u8 28 = 1 ∨ c.u8 28 = 2 := by
    obtain ⟨hlow, hhigh⟩ := h
    omega
  rcases hcode with hcode | hcode <;> simp [TakenCard.applicator, monitorModeOf, hcode]

/-- Settles O10: behind the range checks, engagement and then the lock decide. -/
theorem applicatorLoadOutcomes : Obligations.ApplicatorLoadOutcomes := by
  intro s c rest hnext hkind hfits a lock entry
  have hchecks := TakenCard.applicatorChecks_pass hfits
  obtain ⟨hmode, hwarn, hinterlock⟩ := TakenCard.applicator_mode hfits.mode
  refine ⟨fun hengaged => ?busy, fun hengaged hlocked => ?locked, fun hengaged hfree => ?loaded⟩
  case busy =>
    exact exec_judged_refused (i := .applicatorLoad) rfl hnext (TakenCard.isKind_of hkind) rfl rfl hchecks
      (beq_iff_eq.mpr hengaged)
  case locked =>
    have hfirst : allPass (c.applicatorChecks ++
        [(s.sequencer.engaged == some c.applicatorId, result .refusedBusy [c.applicatorId.val])]) :=
      allPass_concat hchecks (beq_eq_false_iff_ne.mpr hengaged)
    refine exec_judged_refused (i := .applicatorLoad) rfl hnext (TakenCard.isKind_of hkind) rfl
      (List.append_cons _ _ _) hfirst ?_
    rw [hwarn, hlocked.2]
    exact Bool.and_eq_true_iff.mpr ⟨hlocked.1, rfl⟩
  case loaded =>
    have hall : allPass (s.applicatorLoadChecks c) := by
      refine allPass_append.mpr ⟨hchecks, allPass_cons.mpr ⟨beq_eq_false_iff_ne.mpr hengaged, allPass_cons.mpr
        ⟨?_, allPass_nil⟩⟩⟩
      rw [Bool.and_eq_false_iff, hwarn]
      obtain hfree | hfree := hfree
      · exact .inl hfree
      · exact .inr (by rw [hfree]; rfl)
    have hlock : (s.tables.applicators[c.applicatorId].lock || c.applicator.mode == .interlock) = lock := by
      rw [hinterlock]
      rfl
    have hentry : (⟨some c.applicator, lock⟩ : ApplicatorEntry) = entry := by
      simp only [TakenCard.applicator, hmode, entry]
    refine (exec_judged_applied (i := .applicatorLoad) rfl hnext (TakenCard.isKind_of hkind) rfl hall).trans ?_
    simp only [hlock, hentry, result, List.map_cons, List.map_nil, word_ite]
    rfl

/-! ### OVEN_LOAD (R67) -/

theorem TakenCard.lengthSum_le (c : TakenCard) {z : Nat} (hz : z ≤ 6) : c.lengthSum z ≤
    c.u16 16 + c.u16 18 + c.u16 20 + c.u16 22 + c.u16 24 + c.u16 26 := by
  unfold TakenCard.lengthSum
  interval_cases z <;> simp [List.range_succ] <;> omega

theorem TakenCard.ovenChecks_pass (h : c.ovenFits) : allPass c.ovenChecks := by
  refine allPass_append.mpr ⟨allPass_cons.mpr ⟨TakenCard.badLength_eq_false_iff.mpr h.length, fun k hk => ?_⟩, ?_⟩
  · obtain ⟨z, hz, rfl⟩ := List.mem_map.mp hk
    have hz := List.mem_range.mp hz
    have hsum := (c.lengthSum_le (z := z + 1) (by omega)).trans h.total
    exact Bool.or_eq_false_iff.mpr ⟨outside_eq_false_iff.mpr (h.zones z hz), by simpa using hsum⟩
  · simp only [allPass_cons, rangeCheck_passes_iff]
    exact ⟨⟨Nat.zero_le _, h.tolerance⟩, ⟨Nat.zero_le _, h.spacing⟩, allPass_nil⟩

/-- The zone ends of an oven table are the running sums of its zone lengths. -/
theorem TakenCard.ovenTable_ends (c : TakenCard) : c.ovenTable.ends =
    (List.range 6).map fun n => ((List.range (n + 1)).map fun z => c.u16 (16 + 2 * z)).sum := by
  simp [OvenTable.ends, TakenCard.ovenTable, List.range_succ, Nat.add_assoc]

/-- Settles O18: behind the range checks, the oven list decides. -/
theorem ovenLoadOutcomes : Obligations.OvenLoadOutcomes := by
  intro s c rest hnext hkind hfits e table
  have hchecks := TakenCard.ovenChecks_pass hfits
  refine ⟨fun hboards => ?refused, fun hempty => ?loaded⟩
  case refused =>
    exact exec_judged_refused (i := .ovenLoad) rfl hnext (TakenCard.isKind_of hkind) rfl rfl hchecks
      (by simpa using hboards)
  case loaded =>
    have hall : allPass (s.ovenLoadChecks c) := allPass_concat hchecks (by simp [hempty])
    refine (exec_judged_applied (i := .ovenLoad) rfl hnext (TakenCard.isKind_of hkind) rfl hall).trans ?_
    rw [TakenCard.ovenTable_ends]
    rfl

/-! ### PATCH_CLEAR (R60) -/

/-- Settles O16: each check refuses behind those that pass before it. -/
theorem patchClearOutcomes : Obligations.PatchClearOutcomes := by
  intro s c rest hnext hkind e
  have refused {before after : List Check} {refuses : Bool} {r : CardResult}
      (hchecks : s.patchClearChecks c = before ++ (refuses, r) :: after) (hpass : allPass before)
      (hrefuses : refuses = true) : exec .patchClear s = .next (s.completeCard c rest r) :=
    exec_judged_refused (i := .patchClear) rfl hnext (TakenCard.isKind_of hkind) rfl hchecks hpass hrefuses
  refine ⟨fun hshort => ?length, fun hlong hhigh => ?range, fun hlong hlow hfree => ?free,
    fun hlong hlow x hx => ⟨fun hruns => ?busy, fun hruns => ?cleared⟩⟩
  case length => exact refused (before := []) rfl allPass_nil (TakenCard.badLength_eq_true_iff.mpr hshort)
  case range =>
    refine refused (before := [_]) rfl
      (allPass_cons.mpr ⟨TakenCard.badLength_eq_false_iff.mpr hlong, allPass_nil⟩) (outside_eq_true_iff.mpr ?_)
    exact fun hin => Nat.not_lt.mpr hin.2 hhigh
  all_goals
    have hform : allPass ((s.patchClearChecks c).take 2) :=
      allPass_cons.mpr ⟨TakenCard.badLength_eq_false_iff.mpr hlong,
        allPass_cons.mpr ⟨rangeCheck_passes_iff.mpr ⟨Nat.zero_le _, hlow⟩, allPass_nil⟩⟩
  case free => exact refused rfl hform (Option.isNone_iff_eq_none.mpr hfree)
  all_goals
    have hpatch : s.tables.patches[c.patchId] = some x := hx
    have hoccupied : allPass ((s.patchClearChecks c).take 3) :=
      allPass_concat hform (Option.isNone_eq_false_iff.mpr (by simp [hpatch]))
    have hchecks : s.patchClearChecks c = (s.patchClearChecks c).take 3 ++
        [(s.runningProgram == some x.program, result .refusedBusy [x.program.val])] := by
      simp only [State.patchClearChecks, hpatch]
      rfl
  case busy => exact refused hchecks hoccupied (beq_iff_eq.mpr hruns)
  case cleared =>
    have hall : allPass (s.patchClearChecks c) :=
      hchecks ▸ allPass_concat hoccupied (beq_eq_false_iff_ne.mpr hruns)
    refine (exec_judged_applied (i := .patchClear) rfl hnext (TakenCard.isKind_of hkind) rfl hall).trans ?_
    simp only [hpatch]
    rfl

/-! ### Segment records and PATCH_SET (R54, R59) -/

/-- A check that applies to some kinds of segment only. -/
theorem and_outside_eq_false {b : Bool} {n lo hi : Nat} (h : b = true → within n lo hi) :
    (b && outside n lo hi) = false := by
  cases b with
  | false => rfl
  | true => exact outside_eq_false_iff.mpr (h rfl)

/-- The checks of a segment record in range all pass. -/
theorem TakenCard.segmentChecks_pass {b : Nat} (h : c.segmentFits b) : ∀ k ∈ c.segmentChecks b, k.1 = false := by
  have hpass : ∀ k ∈ c.segmentChecks b, k.1 = false := by
    simp only [TakenCard.segmentChecks, List.forall_mem_cons]
    exact ⟨outside_eq_false_iff.mpr h.kind,
      and_outside_eq_false fun hk => ⟨Nat.zero_le _, h.applicator (bne_iff_ne.mp hk)⟩,
      and_outside_eq_false fun hk => h.direction (beq_iff_eq.mp hk),
      outside_eq_false_iff.mpr ⟨Nat.zero_le _, h.column⟩, outside_eq_false_iff.mpr ⟨Nat.zero_le _, h.row⟩,
      and_outside_eq_false fun hk => h.length (beq_iff_eq.mp hk),
      and_outside_eq_false fun hk => h.width (bne_iff_ne.mp hk),
      and_outside_eq_false fun hk => h.trim (bne_iff_ne.mp hk),
      and_outside_eq_false fun hk => h.speed (bne_iff_ne.mp hk),
      and_outside_eq_false fun hk => h.dwell (beq_iff_eq.mp hk), by simp⟩
  exact hpass

/-- What the checks of a PATCH_SET ahead of the last two need. -/
structure State.patchFits (s : State) (c : TakenCard) : Prop where
  length : c.longEnough 32
  program : c.u8 16 ≤ 15
  enabled : c.u8 17 ≤ 1
  index : c.u16 18 ≤ 511
  segment : c.segmentFits 32
  complete : s.tables.programs[c.programId].state = .complete
  stored : c.u16 18 < s.tables.programs[c.programId].segments.length
  loaded : ∀ a, (c.segment 32).applicator = some a → s.tables.applicators[a].record.isSome = true
  single : c.u8 17 = 1 → ∀ (e : Fin 4) (x : Patch), s.tables.patches[e] = some x →
    x.enabled = false ∨ x.program ≠ c.programId ∨ x.index ≠ c.u16 18

/-- The checks of a PATCH_SET ahead of the running program and the free entry. -/
theorem State.patchFits.checks_pass (h : s.patchFits c) : ∃ before : List Check, allPass before ∧
    s.patchSetChecks c = before ++ [(s.runningProgram == some c.programId, result .refusedBusy [c.programId.val]),
      (s.tables.freePatch.isNone, result .refusedFull [])] := by
  have hform : allPass ([ (c.badLength 32, refusedAt 8), rangeCheck 16 (c.u8 16) 0 15, rangeCheck 17 (c.u8 17) 0 1,
      rangeCheck 18 (c.u16 18) 0 511 ] ++ (c.segmentChecks 32).map fun q => (q.1, refusedAt q.2)) := by
    refine allPass_append.mpr ⟨?_, fun k hk => ?_⟩
    · simp only [allPass_cons, rangeCheck_passes_iff, TakenCard.badLength_eq_false_iff]
      exact ⟨h.length, ⟨Nat.zero_le _, h.program⟩, ⟨Nat.zero_le _, h.enabled⟩, ⟨Nat.zero_le _, h.index⟩, allPass_nil⟩
    · obtain ⟨q, hq, rfl⟩ := List.mem_map.mp hk
      exact TakenCard.segmentChecks_pass h.segment q hq
  have happlicator : (match c.patch.segment.applicator with
      | none => (false, result .refusedUnknown [3])
      | some a => (s.applicatorEmpty a, result .refusedUnknown [3, a.val]) : Check).1 = false := by
    split
    · rfl
    next a ha => exact Option.isNone_eq_false_iff.mpr (h.loaded a ha)
  have hsingle : (match s.tables.enabledPatch c.programId (c.u16 18) with
      | none => (false, result .refusedDuplicate [])
      | some e => (c.u8 17 == 1, result .refusedDuplicate [e.val]) : Check).1 = false := by
    split
    · rfl
    next e he =>
      refine beq_eq_false_iff_ne.mpr fun henabled => ?_
      have hfound := List.find?_some he
      split at hfound
      · exact absurd hfound (by decide)
      next x hx =>
        have hother := h.single henabled e x hx
        simp only [Bool.and_eq_true, beq_iff_eq] at hfound
        obtain ⟨⟨hon, hprogram⟩, hindex⟩ := hfound
        simp [hon, hprogram, hindex] at hother
  have hknown : allPass [
      (s.tables.programs[c.programId].state != .complete, result .refusedUnknown [1]),
      (decide (s.tables.programs[c.programId].segments.length ≤ c.u16 18), refusedAt 18)] :=
    allPass_cons.mpr ⟨bne_eq_false_iff_eq.mpr h.complete,
      allPass_cons.mpr ⟨decide_eq_false (Nat.not_le.mpr h.stored), allPass_nil⟩⟩
  refine ⟨_, allPass_append.mpr ⟨hform, allPass_append.mpr ⟨hknown, allPass_cons.mpr ⟨happlicator,
    allPass_cons.mpr ⟨hsingle, allPass_nil⟩⟩⟩⟩, ?_⟩
  unfold State.patchSetChecks
  rfl

theorem Tables.freePatch_eq_none_iff (k : Tables) :
    k.freePatch = none ↔ ∀ e : Fin 4, k.patches[e].isSome = true := by
  simp [Tables.freePatch, allPatches, Option.isSome_iff_ne_none]

/-- The lowest free entry is the one found. -/
theorem Tables.freePatch_eq_some {k : Tables} {e : Fin 4} (hfree : k.patches[e] = none)
    (hbelow : ∀ d < e, k.patches[d].isSome = true) : k.freePatch = some e := by
  unfold Tables.freePatch allPatches
  rw [← Fin.find?_eq_find?_finRange, Fin.find?_eq_some_iff]
  refine ⟨Option.isNone_iff_eq_none.mpr hfree, fun d hd => ?_⟩
  simpa using hbelow d hd

/-- Settles O15: behind the checks that pass, the running program and then the free entries decide. -/
theorem patchSetOutcomes : Obligations.PatchSetOutcomes := by
  intro s c rest hnext hkind hlength hprogram henabled hsegment p hcomplete hstored hindex hloaded hsingle
  have hfits : s.patchFits c :=
    ⟨hlength, hprogram, henabled, hindex, hsegment, hcomplete, hstored, hloaded, hsingle⟩
  obtain ⟨before, hbefore, hchecks⟩ := hfits.checks_pass
  have hidle (hruns : s.runningProgram ≠ some p) : (s.runningProgram == some c.programId) = false :=
    beq_eq_false_iff_ne.mpr hruns
  refine ⟨fun hruns => ?busy, fun hruns hoccupied => ?full, fun hruns e hfree hbelow => ?set⟩
  case busy =>
    exact exec_judged_refused (i := .patchSet) rfl hnext (TakenCard.isKind_of hkind) rfl hchecks hbefore
      (beq_iff_eq.mpr hruns)
  case full =>
    refine exec_judged_refused (i := .patchSet) rfl hnext (TakenCard.isKind_of hkind) rfl
      (hchecks.trans (List.append_cons _ _ _)) (allPass_concat hbefore (hidle hruns)) ?_
    exact Option.isNone_iff_eq_none.mpr ((Tables.freePatch_eq_none_iff _).mpr hoccupied)
  case set =>
    have hfound := Tables.freePatch_eq_some hfree hbelow
    have hall : allPass (s.patchSetChecks c) := by
      rw [hchecks]
      exact allPass_append.mpr ⟨hbefore, allPass_cons.mpr ⟨hidle hruns, allPass_cons.mpr ⟨by rw [hfound]; rfl,
        allPass_nil⟩⟩⟩
    have hcount : s.tables.freePatches = ((List.finRange 4).filter fun d => s.tables.patches[d] == none).length := by
      simp only [Tables.freePatches, allPatches, Option.beq_none]
    refine (exec_judged_applied (i := .patchSet) rfl hnext (TakenCard.isKind_of hkind) rfl hall).trans ?_
    simp only [hfound, hcount]
    rfl

/-! ### PATH_LOAD (R53, R56-R58) -/

theorem TakenCard.pathChecks_pass (h : c.pathFits) : allPass c.pathChecks := by
  refine allPass_append.mpr ⟨?_, fun k hk => ?_⟩
  · have hshort : c.longEnough 16 := ⟨(Nat.le_add_right _ _).trans h.length.1, h.length.2⟩
    simp only [allPass_cons, rangeCheck_passes_iff, TakenCard.badLength_eq_false_iff]
    exact ⟨hshort, ⟨Nat.zero_le _, h.program⟩, ⟨Nat.zero_le _, h.chunk⟩, ⟨Nat.zero_le _, h.last⟩, h.count, h.length,
      allPass_nil⟩
  · obtain ⟨j, hj, hk⟩ := List.mem_flatMap.mp hk
    obtain ⟨q, hq, rfl⟩ := List.mem_map.mp hk
    exact TakenCard.segmentChecks_pass (h.records j (List.mem_range.mp hj)) q hq

/-- The places of the path store that programs take. -/
def usedPlaces (programs : Vector Program 16) : Nat := (programs.toList.map fun q => q.segments.length).sum

theorem Tables.freePlaces_eq (k : Tables) : k.freePlaces = 4096 - usedPlaces k.programs := rfl

/-- A program put in place of another takes its own places and gives the other's back. -/
theorem usedPlaces_set (programs : Vector Program 16) (p : ProgramId) (q : Program) :
    usedPlaces (programs.set p q) + programs[p].segments.length = usedPlaces programs + q.segments.length := by
  have hsum (l : List Nat) (k x : Nat) (hk : k < l.length) : (l.set k x).sum + l[k] = l.sum + x := by
    have hself := List.sum_set l k l[k]
    rw [List.set_getElem_self, if_pos hk] at hself
    rw [List.sum_set, if_pos hk, hself]
    omega
  have hplace : p.val < (programs.toList.map fun q => q.segments.length).length := by simp
  have hset := hsum (programs.toList.map fun q => q.segments.length) p.val q.segments.length hplace
  simpa [usedPlaces, Vector.toList_set, List.map_set] using hset

theorem usedPlaces_set_set (programs : Vector Program 16) (p : ProgramId) (q r : Program) (hr : r.segments = []) :
    usedPlaces (programs.set p q) = usedPlaces (programs.set p r) + q.segments.length := by
  have hq := usedPlaces_set programs p q
  have hrest := usedPlaces_set programs p r
  rw [hr, List.length_nil] at hrest
  omega

/-- The recipes that name a program, counted by their numbers. -/
theorem Tables.recipesNaming_eq (k : Tables) (p : ProgramId) : k.recipesNaming p =
    ((List.finRange 16).filter fun i => match k.recipes[i] with | none => false | some r => r.program == p).length := by
  rw [Tables.recipesNaming, toList_eq_map_getElem, List.filter_map, List.length_map]
  rfl

/-- What starting a program over leaves. -/
structure Tables.startedOver (k l : Tables) (p : ProgramId) : Prop where
  programs : ∀ q : ProgramId, q ≠ p → l.programs[q] = k.programs[q]
  patches : ∀ e : Fin 4, l.patches[e] = match k.patches[e] with
    | none => none
    | some x => if x.program = p then none else some x
  recipes : ∀ i : RecipeId, l.recipes[i] = match k.recipes[i] with
    | none => none
    | some r => if r.program = p then none else some r
  rest : l.applicators = k.applicators ∧ l.coatings = k.coatings ∧ l.oven = k.oven

/-- A program put in the place of the one started over. -/
theorem Tables.startOver_startedOver (k : Tables) (p : ProgramId) (q : Program) :
    k.startedOver { k.startOver p with programs := (k.startOver p).programs.set p q } p where
  programs r hr := by
    rw [Tables.setProgram_programs _ _ _ _ hr]
    exact Tables.setProgram_programs _ _ _ _ hr
  patches e := Vector.getElem_map _ e.isLt
  recipes i := Vector.getElem_map _ i.isLt
  rest := ⟨rfl, rfl, rfl⟩

/-- The state code of an accepted chunk's program. -/
theorem word_code_last (last : Bool) {v : ProgramState} (hv : v = .building) :
    word (if last then ProgramState.complete else v).code = if last then 2 else 1 := by
  cases last <;> subst hv <;> rfl

/-- The tables that a chunk is judged against: those of a program started over for chunk 0 (R57). -/
def TakenCard.chunkTables (c : TakenCard) (k : Tables) : Tables :=
  if c.u8 17 == 0 then k.startOver c.programId else k

/-- How many recipes chunk 0 empties (R57). -/
def TakenCard.emptied (c : TakenCard) (k : Tables) : Nat := if c.u8 17 == 0 then k.recipesNaming c.programId else 0

/-- A chunk that finds room is appended (R58). -/
theorem State.loadChunk_appends (hroom : (c.chunkTables s.tables).short c.programId (c.u8 19) = none) :
    let k := (c.chunkTables s.tables).addChunk c.programId (c.u8 17) (c.u8 18 == 1) c.pathSegments
    s.loadChunk c = (({ s with tables := k } : State), result .ok
        [k.programs[c.programId].segments.length, k.freePlaces,
      k.programs[c.programId].state.code, c.emptied s.tables]) := by
  unfold State.loadChunk
  unfold TakenCard.chunkTables at hroom ⊢
  simp only [hroom]
  rfl

/-- A program abandoned (R58). -/
def Tables.abandon (k : Tables) (p : ProgramId) : Tables := { k with programs := k.programs.set p ⟨.empty, [], none⟩ }

/-- An abandoned program gives its places back. -/
theorem Tables.abandon_freePlaces (k : Tables) (p : ProgramId) :
    (k.abandon p).freePlaces = 4096 - (usedPlaces k.programs - k.programs[p].segments.length) := by
  have hset := usedPlaces_set k.programs p ⟨.empty, [], none⟩
  rw [Tables.freePlaces_eq]
  refine congrArg (4096 - ·) ?_
  exact Nat.eq_sub_of_add_eq hset

/-- A chunk that finds no room abandons its program (R58). -/
theorem State.loadChunk_abandons {why : Nat} (hroom : (c.chunkTables s.tables).short c.programId (c.u8 19) = some why) :
    s.loadChunk c = (({ s with tables := (c.chunkTables s.tables).abandon c.programId } : State), result .refusedFull
      [why, ((c.chunkTables s.tables).abandon c.programId).freePlaces, c.emptied s.tables]) := by
  unfold State.loadChunk
  unfold TakenCard.chunkTables at hroom ⊢
  simp only [hroom]
  rfl

/-- A PATH_LOAD in range is judged by its chunk number, and then loaded. -/
theorem exec_pathLoad_loads (hnext : s.nextCard c rest) (hkind : c.kind = 4) (hfits : c.pathFits)
    (hchunk : (s.chunkCheck c).1 = false) :
    exec .pathLoad s = .next ((s.loadChunk c).1.completeCard c rest (s.loadChunk c).2) :=
  exec_judged_applied (i := .pathLoad) rfl hnext (TakenCard.isKind_of hkind) rfl
    (allPass_concat (TakenCard.pathChecks_pass hfits) hchunk)

theorem exec_pathLoad_refused (hnext : s.nextCard c rest) (hkind : c.kind = 4) (hfits : c.pathFits) {r : CardResult}
    (hchunk : s.chunkCheck c = (true, r)) : exec .pathLoad s = .next (s.completeCard c rest r) :=
  exec_judged_refused (i := .pathLoad) (refuses := true) (r := r) rfl hnext (TakenCard.isKind_of hkind) rfl
    (congrArg (fun k => c.pathChecks ++ [k]) hchunk) (TakenCard.pathChecks_pass hfits) rfl

/-- The program that chunk 0 starts over. -/
theorem Tables.startOver_program (k : Tables) (p : ProgramId) :
    (k.startOver p).programs[p] = ⟨.building, [], none⟩ := by
  simp [Tables.startOver]

/-- The program that an accepted chunk leaves. -/
theorem Tables.addChunk_program (k : Tables) (p : ProgramId) (chunk : Nat) (last : Bool) (l : List Segment) :
    (k.addChunk p chunk last l).programs[p] =
      ⟨if last then .complete else k.programs[p].state, k.programs[p].segments ++ l, some chunk⟩ := by
  simp [Tables.addChunk]

/-- The places left free by an accepted chunk. -/
theorem Tables.addChunk_freePlaces (k : Tables) (p : ProgramId) (chunk : Nat) (last : Bool) (l : List Segment) :
    (k.addChunk p chunk last l).freePlaces = 4096 - (usedPlaces k.programs + l.length) := by
  have hset := usedPlaces_set k.programs p
    ⟨if last then .complete else k.programs[p].state, k.programs[p].segments ++ l, some chunk⟩
  rw [List.length_append] at hset
  rw [Tables.freePlaces_eq]
  refine congrArg (4096 - ·) ?_
  have hprograms : (k.addChunk p chunk last l).programs = k.programs.set p
    ⟨if last then .complete else k.programs[p].state, k.programs[p].segments ++ l, some chunk⟩ := rfl
  rw [hprograms]
  omega

/-- The code of a program that a chunk completes, or leaves BUILDING. -/
theorem word_code_chunk (last : Nat) :
    word (if last = 1 then ProgramState.complete else .building).code = if last = 1 then 2 else 1 := by
  split <;> rfl

theorem TakenCard.length_pathSegments (c : TakenCard) : c.pathSegments.length = c.u8 19 := by
  simp [TakenCard.pathSegments]

/-- The program that chunk 0 leaves where it finds room. -/
theorem Tables.startOver_addChunk (k : Tables) (p : ProgramId) (last : Nat) (l : List Segment) :
    ((k.startOver p).addChunk p 0 (last == 1) l).programs[p] =
      ⟨if last = 1 then .complete else .building, l, some 0⟩ := by
  rw [Tables.addChunk_program, Tables.startOver_program]
  simp

/-- Settles O13: chunk 0 is judged by the users of its program, and then by the room that starting over leaves. -/
theorem firstChunkStartsTheProgramOver : Obligations.FirstChunkStartsTheProgramOver := by
  intro s c rest hnext hkind hfits hfirst p segments others emptied cleared
  have hstarted : c.chunkTables s.tables = s.tables.startOver c.programId := if_pos (beq_iff_eq.mpr hfirst)
  have hemptied : c.emptied s.tables = emptied :=
    (if_pos (beq_iff_eq.mpr hfirst)).trans (Tables.recipesNaming_eq _ _)
  have hcheck : s.chunkCheck c = s.inUseCheck true fun r => r.program == c.programId := if_pos hfirst
  have hfree : (s.tables.startOver c.programId).freePlaces = 4096 - others := rfl
  have hcount := hfits.count
  have hloads (hno : s.noUser fun r => r.program = c.programId) := exec_pathLoad_loads hnext hkind hfits
    (hcheck ▸ State.inUseCheck_passes (.inr (by simpa using hno)))
  have hcleared (q : Program) : cleared { s.tables.startOver c.programId with
      programs := (s.tables.startOver c.programId).programs.set c.programId q } := by
    obtain ⟨hprograms, hpatches, hrecipes, hrest⟩ := Tables.startOver_startedOver s.tables c.programId q
    exact ⟨hprograms, hpatches, hrecipes, hrest⟩
  refine ⟨fun id huser => ?refused, fun hno hroom => ?accepted, fun hno hshort => ?abandoned⟩
  case refused =>
    have huser : s.lowestUser (fun r => (r.program == c.programId) = true) id := by
      simp only [beq_iff_eq]
      exact huser
    exact exec_pathLoad_refused hnext hkind hfits (hcheck.trans (State.inUseCheck_refuses huser))
  case accepted =>
    have hshort : (c.chunkTables s.tables).short c.programId (c.u8 19) = none := by
      have hprogram := Tables.startOver_program s.tables c.programId
      rw [hstarted, Tables.short, hfree, if_neg (by omega), hprogram, if_neg]
      simp only [List.length_nil, Nat.zero_add, Nat.not_lt]
      exact hcount.2.trans (by decide)
    have happends := State.loadChunk_appends hshort
    rw [hstarted, hemptied, hfirst] at happends
    have hprogram := Tables.startOver_addChunk s.tables c.programId (c.u8 18) c.pathSegments
    refine ⟨_, hcleared _, hprogram, (hloads hno).trans ?_⟩
    rw [happends, hprogram, Tables.addChunk_freePlaces, TakenCard.length_pathSegments]
    simp only [result, List.map_cons, List.map_nil, word_code_chunk]
    rfl
  case abandoned =>
    have hshort : (c.chunkTables s.tables).short c.programId (c.u8 19) = some 1 := by
      rw [hstarted, Tables.short, hfree, if_pos (by omega)]
    refine ⟨_, hcleared ⟨.empty, [], none⟩, Vector.getElem_set_self _, (hloads hno).trans ?_⟩
    rw [State.loadChunk_abandons hshort, hstarted, hemptied, Tables.abandon_freePlaces, Tables.startOver_program]
    rfl

/-- Settles O14: a later chunk is judged by its place in the sequence, and then by the room that is left. -/
theorem laterChunksFollowInOrder : Obligations.LaterChunksFollowInOrder := by
  intro s c rest hnext hkind hfits hlater p old segments used next put
  have hstands : c.chunkTables s.tables = s.tables := if_neg (by simpa using hlater)
  have hemptied : c.emptied s.tables = 0 := if_neg (by simpa using hlater)
  have hcheck : s.chunkCheck c = (!(old.state == .building && old.lastChunk == some (c.u8 17 - 1)),
      ⟨.refusedSequence, [word old.state.code, wordOrNone old.lastChunk]⟩) := if_neg hlater
  have hfree : s.tables.freePlaces = 4096 - used := rfl
  have hold : s.tables.programs[c.programId] = old := rfl
  have hlength : segments.length = old.segments.length + c.u8 19 := by simp [segments]
  have hcount := hfits.count
  have hloads (hfollows : next) := exec_pathLoad_loads hnext hkind hfits (by simp [hcheck, hfollows.1, hfollows.2])
  have hshort (why : Option Nat) (hwhy : (if 4096 - used < c.u8 19 then some 1
      else if 512 < old.segments.length + c.u8 19 then some 2 else none) = why) :
      (c.chunkTables s.tables).short c.programId (c.u8 19) = why := by
    rw [hstands]
    exact hwhy
  have habandons {why : Nat} (hfollows : next)
      (hwhy : (c.chunkTables s.tables).short c.programId (c.u8 19) = some why) :
      exec .pathLoad s = .next ((put ⟨.empty, [], none⟩).completeCard c rest
        ⟨.refusedFull, [word why, word (4096 - (used - old.segments.length)), 0]⟩) := by
    refine (hloads hfollows).trans ?_
    rw [State.loadChunk_abandons hwhy, hstands, hemptied, Tables.abandon_freePlaces]
    rfl
  refine ⟨fun hout => ?sequence, fun hfollows hroom hlong => ?accepted, fun hfollows hfull => ?store,
    fun hfollows hroom hlong => ?program⟩
  case sequence =>
    refine exec_pathLoad_refused hnext hkind hfits (hcheck.trans ?_)
    refine congrArg₂ Prod.mk ?_ ?_
    · rw [Bool.not_eq_true', ← Bool.not_eq_true, Bool.and_eq_true, beq_iff_eq, beq_iff_eq]
      exact hout
    · cases old.lastChunk <;> rfl
  case accepted =>
    have happends := State.loadChunk_appends (hshort none (by rw [if_neg (by omega), if_neg (by omega)]))
    rw [hstands, hemptied] at happends
    have hchunk : (⟨if (c.u8 18 == 1) = true then .complete else old.state, old.segments ++ c.pathSegments,
        some (c.u8 17)⟩ : Program) = ⟨if c.u8 18 = 1 then .complete else .building, segments, some (c.u8 17)⟩ := by
      simp only [hfollows.1, beq_iff_eq]
      rfl
    have hput : ({ s with tables := s.tables.addChunk c.programId (c.u8 17) (c.u8 18 == 1) c.pathSegments } : State) =
        put ⟨if c.u8 18 = 1 then .complete else .building, segments, some (c.u8 17)⟩ := by
      rw [← hchunk]
      rfl
    refine (hloads hfollows).trans ?_
    rw [happends, hput, Tables.addChunk_program, Tables.addChunk_freePlaces, TakenCard.length_pathSegments, hold,
        hchunk]
    simp only [result, List.map_cons, List.map_nil, word_code_chunk]
    rfl
  case store => exact habandons hfollows (hshort (some 1) (if_pos (by omega)))
  case program =>
    exact habandons hfollows (hshort (some 2) (by rw [if_neg (by omega), if_pos (by omega)]))

/-! ### The cells that an accepted recipe zeroes (R116) -/

/-- Both bytes of a cell lie in its frame, at its place. -/
theorem inFrame_cellAt (f g : FrameId) (p : Nat × Nat → Bool) {column row : Nat} (hcolumn : column < 64)
    (hrow : row < 48) {i : Nat} (hi : i < 2) :
    inFrame g p (cellAt f (column, row) + i) = (decide (g = f) && p (column, row)) := by
  have hplace : inFrame g p (cellAt f (column, row) + i) = true ↔
      (0x14000 + 6144 * g.val ≤ cellAt f (column, row) + i ∧
        cellAt f (column, row) + i < 0x14000 + 6144 * g.val + 6144) ∧
        p ((cellAt f (column, row) + i - (0x14000 + 6144 * g.val)) % 128 / 2,
          (cellAt f (column, row) + i - (0x14000 + 6144 * g.val)) / 128) = true := by
    simp only [inFrame, Bool.and_eq_true, decide_eq_true_eq]
  have hcell : cellAt f (column, row) = 0x14000 + 6144 * f.val + 128 * row + 2 * column := rfl
  rw [Bool.eq_iff_iff, hplace, Bool.and_eq_true, decide_eq_true_eq]
  by_cases hg : g = f
  · subst hg
    have hcolumn : (cellAt g (column, row) + i - (0x14000 + 6144 * g.val)) % 128 / 2 = column := by omega
    have hline : (cellAt g (column, row) + i - (0x14000 + 6144 * g.val)) / 128 = row := by omega
    rw [hcolumn, hline]
    exact and_congr_left fun _ => iff_of_true (by omega) rfl
  · have hne : g.val ≠ f.val := fun h => hg (Fin.ext h)
    exact iff_of_false (fun h => by omega) fun h => hg h.1

/-- A cell after cells of a frame are cleared. -/
theorem Memory.cell_clearWhere (m : Memory) (f g : FrameId) (p : Nat × Nat → Bool) {column row : Nat}
    (hcolumn : column < 64) (hrow : row < 48) :
    (m.clearWhere (inFrame g p)).cell f (column, row) =
      if g = f ∧ p (column, row) = true then 0 else m.cell f (column, row) := by
  have hlow := inFrame_cellAt f g p hcolumn hrow (i := 0) (by omega)
  have hhigh := inFrame_cellAt f g p hcolumn hrow (i := 1) (by omega)
  rw [Nat.add_zero] at hlow
  simp only [Memory.cell, Memory.read_clearWhere, hlow, hhigh]
  by_cases hcell : g = f ∧ p (column, row) = true
  · simp [hcell]
  · have hfalse : (decide (g = f) && p (column, row)) = false := by simpa using hcell
    simp only [hfalse, if_neg hcell]
    rfl

/-- Clearing cells of frames leaves all that is outside the frames. -/
theorem Memory.read_clearWhere_outside (m : Memory) (g : FrameId) (p : Nat × Nat → Bool) {o : Nat}
    (ho : o < 0x14000 + 6144 * g.val ∨ 0x14000 + 6144 * g.val + 6144 ≤ o) :
    (m.clearWhere (inFrame g p)).read o = m.read o := by
  rw [Memory.read_clearWhere, if_neg]
  simp only [inFrame, Bool.and_eq_true, decide_eq_true_eq]
  omega

/-- What zeroing the same cells of several frames leaves in memory. -/
theorem foldZeroCells (p : Nat × Nat → Bool) (frames : List FrameId) (s : State) :
    let t := frames.foldl (fun u f => u.zeroCells f p) s
    t = { s with exchange := { s.exchange with mem := t.exchange.mem } } ∧
      (∀ (f : FrameId) (column row : Nat), column < 64 → row < 48 → t.exchange.mem.cell f (column, row) =
        if f ∈ frames ∧ p (column, row) = true then 0 else s.exchange.mem.cell f (column, row)) ∧
      ∀ o, o < 0x14000 ∨ 0x20000 ≤ o → t.exchange.mem.read o = s.exchange.mem.read o := by
  induction frames generalizing s with
  | nil => exact ⟨rfl, fun f column row _ _ => by simp, fun o _ => rfl⟩
  | cons g frames ih =>
    obtain ⟨hframe, hcells, houtside⟩ := ih (s.zeroCells g p)
    refine ⟨hframe, fun f column row hcolumn hrow => ?_, fun o ho => ?_⟩
    · refine (hcells f column row hcolumn hrow).trans ?_
      rw [State.zeroCells_exchange, Memory.cell_clearWhere _ _ _ _ hcolumn hrow]
      by_cases hp : p (column, row) = true
      · by_cases hg : g = f
        · simp [hp, hg]
        · simp [hp, hg, Ne.symm hg]
      · simp [hp]
    · refine (houtside o ho).trans ?_
      have hg := g.isLt
      exact Memory.read_clearWhere_outside _ g p (by omega)

/-- The cells that a recipe bars (R116). -/
def Recipe.bars (r : Recipe) (cell : Nat × Nat) : Bool :=
  decide (r.columns ≤ cell.1) || decide (r.rows ≤ cell.2) || r.inZone .keepOut .masked cell

/-- The frame is RETAINED, and its owner's valid record carries the recipe (R116). -/
def State.holdsFilmOf (s : State) (id : RecipeId) (f : FrameId) : Bool :=
  match s.coverage.frames[f] with
  | ⟨.retained, some t, _⟩ => (s.record t).valid && (s.record t).recipe == id
  | _ => false

theorem State.zeroForRecipe_eq (id : RecipeId) (r : Recipe) :
    s.zeroForRecipe id r = (allFrames.filter (s.holdsFilmOf id)).foldl (fun u f => u.zeroCells f r.bars) s := rfl

theorem Recipe.bars_iff (r : Recipe) (column row : Nat) : r.bars (column, row) = true ↔
    r.columns ≤ column ∨ r.rows ≤ row ∨ ∃ z ∈ r.zones, (z.cls = .keepOut ∨ z.cls = .masked) ∧
      within column z.col0 z.col1 ∧ within row z.row0 z.row1 := by
  simp [Recipe.bars, Recipe.inZone, Zone.covers, within, and_assoc, or_assoc]

theorem State.holdsFilmOf_iff (id : RecipeId) (f : FrameId) : s.holdsFilmOf id f = true ↔
    s.coverage.frames[f].state = .retained ∧
      ∃ n, s.coverage.frames[f].owner = some n ∧ (s.record n).valid = true ∧ (s.record n).recipe = id := by
  unfold State.holdsFilmOf
  split
  next t pass hframe => simp [hframe]
  next hother =>
    refine iff_of_false (by simp) ?_
    rintro ⟨hstate, n, howner, -⟩
    exact hother n s.coverage.frames[f].pass (by rw [← hstate, ← howner])

/-- What an accepted recipe zeroes, and what it leaves. -/
theorem State.zeroForRecipe_spec (id : RecipeId) (r : Recipe) :
    let t := s.zeroForRecipe id r
    t = { s with exchange := { s.exchange with mem := t.exchange.mem } } ∧
    (∀ (f : FrameId) (column row : Nat), column < 64 → row < 48 →
      let owned : Prop := s.coverage.frames[f].state = .retained ∧
        ∃ n, s.coverage.frames[f].owner = some n ∧ (s.record n).valid = true ∧ (s.record n).recipe = id
      let barred : Prop := r.columns ≤ column ∨ r.rows ≤ row ∨ ∃ z ∈ r.zones, (z.cls = .keepOut ∨ z.cls = .masked) ∧
        within column z.col0 z.col1 ∧ within row z.row0 z.row1
      (owned → barred → t.exchange.mem.cell f (column, row) = 0) ∧
      (¬owned ∨ ¬barred → t.exchange.mem.cell f (column, row) = s.exchange.mem.cell f (column, row))) ∧
    ∀ o, o < 0x14000 ∨ 0x20000 ≤ o → t.exchange.mem.read o = s.exchange.mem.read o := by
  rw [State.zeroForRecipe_eq]
  obtain ⟨hframe, hcells, houtside⟩ := foldZeroCells r.bars (allFrames.filter (s.holdsFilmOf id)) s
  refine ⟨hframe, fun f column row hcolumn hrow => ?_, houtside⟩
  intro owned barred
  have hmem : f ∈ allFrames.filter (s.holdsFilmOf id) ↔ owned := by
    rw [List.mem_filter, State.holdsFilmOf_iff]
    exact and_iff_right (List.mem_finRange f)
  have hcell := hcells f column row hcolumn hrow
  simp only [hmem, Recipe.bars_iff] at hcell
  refine ⟨fun howned hbarred => hcell.trans (if_pos ⟨howned, hbarred⟩), fun hnot => hcell.trans (if_neg ?_)⟩
  rintro ⟨howned, hbarred⟩
  exact hnot.elim (· howned) (· hbarred)

/-! ### RECIPE_LOAD (R62-R65) -/

/-- Where the fields of a zone lie. -/
theorem zoneAt_fields (z : Nat) : zoneAt z + 1 = 37 + 6 * z ∧ zoneAt z + 2 = 38 + 6 * z ∧ zoneAt z + 3 = 39 + 6 * z ∧
    zoneAt z + 4 = 40 + 6 * z := by
  simp only [zoneAt]
  omega

/-- A MASKED zone of a card in range has fewer than eight MASKED ones before it. -/
theorem TakenCard.maskedBefore_lt (h : c.recipeFits) {z : Nat} (hz : z < c.u8 34) (hmasked : c.u8 (zoneAt z) = 2) :
    c.maskedBefore z < 8 := by
  have hnext : c.maskedBefore (z + 1) = c.maskedBefore z + 1 := by
    simp [TakenCard.maskedBefore, List.range_succ, hmasked]
  have hprefix : c.maskedBefore (z + 1) ≤ c.maskedBefore (c.u8 34) :=
    ((List.range_sublist.mpr hz).filter _).length_le
  have hall : c.maskedBefore (c.u8 34) ≤ 8 := h.masks
  omega

theorem TakenCard.zoneChecks_pass (h : c.recipeFits) {z : Nat} (hz : z < c.u8 34) :
    allPass (c.zoneChecks (c.u8 17) (c.u8 18) z) := by
  obtain ⟨hcls, ⟨hcolumns, hcolumnEnd⟩, hrows, hrowEnd⟩ := h.zones z hz
  obtain ⟨hcol0, hrow0, hcol1, hrow1⟩ := zoneAt_fields z
  have hmasked : (c.u8 (zoneAt z) == 2 && decide (8 ≤ c.maskedBefore z)) = false := by
    rw [Bool.and_eq_false_iff, decide_eq_false_iff_not, beq_eq_false_iff_ne, Nat.not_le]
    exact (ne_or_eq _ _).imp_right (TakenCard.maskedBefore_lt h hz)
  simp only [TakenCard.zoneChecks, allPass_cons, rangeCheck_passes_iff, hcol0, hrow0, hcol1, hrow1]
  refine ⟨Bool.or_eq_false_iff.mpr ⟨outside_eq_false_iff.mpr hcls, hmasked⟩, ⟨Nat.zero_le _, ?_⟩, ⟨Nat.zero_le _, ?_⟩,
    ⟨hcolumns, ?_⟩, ⟨hrows, ?_⟩, allPass_nil⟩ <;> omega

theorem TakenCard.recipeChecks_pass (h : c.recipeFits) : allPass c.recipeChecks := by
  refine allPass_append.mpr ⟨?_, fun k hk => ?_⟩
  · have hshort : c.longEnough 20 := ⟨(Nat.le_add_right _ _).trans h.length.1, h.length.2⟩
    obtain ⟨hcoat, hcoatMax⟩ := h.coat
    obtain ⟨hthin, hthinMax⟩ := h.thin
    simp only [allPass_cons, rangeCheck_passes_iff, TakenCard.badLength_eq_false_iff]
    exact ⟨hshort, ⟨Nat.zero_le _, h.index⟩, h.columns, h.rows, ⟨Nat.zero_le _, h.program⟩, ⟨Nat.zero_le _, h.coating⟩,
      h.maskPolicy, h.conflictPolicy, ⟨Nat.zero_le _, h.recoatLimit⟩, h.timeout, ⟨Nat.zero_le _, hcoat.trans hcoatMax⟩,
      ⟨hcoat, hcoatMax⟩, ⟨Nat.zero_le _, hthin.trans hthinMax⟩, ⟨hthin, hthinMax⟩, ⟨Nat.zero_le _, h.count⟩, h.length,
      allPass_nil⟩
  · obtain ⟨z, hz, hk⟩ := List.mem_flatMap.mp hk
    exact TakenCard.zoneChecks_pass h (List.mem_range.mp hz) k hk

/-- No segment names an empty applicator entry. -/
theorem State.firstUnknownApplicator_eq_none {l : List Segment} (i : Nat)
    (h : ∀ g ∈ l, ∀ a, g.applicator = some a → s.tables.applicators[a].record.isSome = true) :
    s.firstUnknownApplicator i l = none := by
  induction l generalizing i with
  | nil => rfl
  | cons g l ih =>
    have hrest := ih (i + 1) fun k hk => h k (List.mem_cons_of_mem g hk)
    unfold State.firstUnknownApplicator
    split
    · exact hrest
    next a ha =>
      have hloaded := h g List.mem_cons_self a ha
      rw [if_neg (by simpa [State.applicatorEmpty] using Option.isSome_iff_ne_none.mp hloaded)]
      exact hrest

/-- The recipe record of a RECIPE_LOAD, its zones at their card offsets. -/
theorem TakenCard.recipe_zones (c : TakenCard) : c.recipe.zones = (List.range (c.u8 34)).map fun z =>
    ⟨zoneClassOf (c.u8 (36 + 6 * z)), c.u8 (37 + 6 * z), c.u8 (38 + 6 * z), c.u8 (39 + 6 * z), c.u8 (40 + 6 * z)⟩ := by
  refine List.map_congr_left fun z _ => ?_
  obtain ⟨hcol0, hrow0, hcol1, hrow1⟩ := zoneAt_fields z
  simp only [TakenCard.zone, hcol0, hrow0, hcol1, hrow1]
  rfl

/-- Settles O12: behind the checks that pass, the users of the recipe decide; and the zeroed cells are those barred in
the frames that hold film of the recipe. -/
theorem recipeLoadOutcomes : Obligations.RecipeLoadOutcomes := by
  refine ⟨?outcomes, fun s id r _ => State.zeroForRecipe_spec id r⟩
  intro s c rest hnext hkind hfits id p zone r hits hcomplete hcoating happlicators
  have hrecipe : c.recipe = r := by
    have hzones := TakenCard.recipe_zones c
    simp only [TakenCard.recipe] at hzones
    simp only [TakenCard.recipe, hzones]
    rfl
  have hknown : ∃ before : List Check, allPass before ∧ s.recipeLoadChecks c = before ++
      [(s.recipeInUse c.recipeId, result .refusedInUse [s.admissionsOf c.recipeId, s.recordsOf c.recipeId])] := by
    have hprogram : (s.tables.programs[c.recipe.program].state != .complete) = false := bne_eq_false_iff_eq.mpr
        hcomplete
    have hloaded : (s.tables.coatings[c.recipe.coating].isNone) = false := Option.isNone_eq_false_iff.mpr hcoating
    have hunknown := State.firstUnknownApplicator_eq_none 0 happlicators
    refine ⟨c.recipeChecks ++ [
      (s.tables.programs[c.recipe.program].state != .complete, result .refusedUnknown [1, c.recipe.program.val]),
      (s.tables.coatings[c.recipe.coating].isNone, result .refusedUnknown [2, c.recipe.coating.val]),
      (false, result .refusedUnknown [3])], ?_, ?_⟩
    · exact allPass_append.mpr ⟨TakenCard.recipeChecks_pass hfits, allPass_cons.mpr
        ⟨hprogram, allPass_cons.mpr ⟨hloaded,
        allPass_cons.mpr ⟨rfl, allPass_nil⟩⟩⟩⟩
    · have hunknown : s.firstUnknownApplicator 0 s.tables.programs[c.recipe.program].segments = none := hunknown
      simp only [State.recipeLoadChecks, hunknown, List.append_assoc, List.cons_append, List.nil_append]
  obtain ⟨before, hbefore, hchecks⟩ := hknown
  refine ⟨fun huse => ?refused, fun hfree => ?loaded⟩
  case refused =>
    exact exec_judged_refused (i := .recipeLoad) rfl hnext (TakenCard.isKind_of hkind) rfl hchecks hbefore huse
  case loaded =>
    have hall : allPass (s.recipeLoadChecks c) := hchecks ▸ allPass_concat hbefore hfree
    have hconflicts : r.conflicts p.segments = hits := by
      refine congrArg (List.filter · _) (funext fun i => ?_)
      cases p.segments[i]? with
      | none => rfl
      | some g => simp only [Recipe.inZone, Bool.or_self]
    refine (exec_judged_applied (i := .recipeLoad) rfl hnext (TakenCard.isKind_of hkind) rfl hall).trans ?_
    simp only [hrecipe]
    rw [← hconflicts]
    rfl

end Sys2Proof.Machine
end

section
/-! PROOFS. Admissions, holds and dispositions (chapters 1 and 9): the admission list's entries, slots, the hold order
and a board that leaves the hold; and the outcomes of ADMIT, WITHDRAW, DISPOSE, RECLAIM_MAP and slot reports. -/

namespace Sys2Proof.Machine

variable {s : State} {c : TakenCard} {rest : List TakenCard}

/-! ### The admission list (R2, R3) -/

theorem findAdmission_eq_none_iff {serial : Serial} {l : List Admission} :
    findAdmission serial l = none ↔ ∀ a ∈ l, a.serial ≠ serial := by
  simp [findAdmission]

theorem findAdmission_first {before after : List Admission} {a : Admission}
    (hbefore : ∀ b ∈ before, b.serial ≠ a.serial) : findAdmission a.serial (before ++ a :: after) = some a := by
  have hskip : before.find? (fun b => b.serial == a.serial) = none := findAdmission_eq_none_iff.mpr hbefore
  rw [findAdmission, List.find?_append, hskip]
  simp

theorem removeAdmission_first {before after : List Admission} {a : Admission}
    (hbefore : ∀ b ∈ before, b.serial ≠ a.serial) :
    removeAdmission a.serial (before ++ a :: after) = before ++ after := by
  rw [removeAdmission, List.eraseP_append_right _ (by simpa using hbefore)]
  simp

theorem State.knownSerial_iff {serial : Serial} : s.knownSerial serial = true ↔
    serial ∈ s.tracker.admissions.map (·.serial) ∨ ∃ n, (s.record n).valid = true ∧ (s.record n).serial = serial := by
  simp [State.knownSerial, allTags]

/-- Settles O19: each check refuses behind those that pass before it. -/
theorem admitOutcomes : Obligations.AdmitOutcomes := by
  intro s c rest hnext hkind serial id known refused
  have refusedBehind {before after : List Check} {refuses : Bool} {r : CardResult}
      (hchecks : s.admitChecks c = before ++ (refuses, r) :: after) (hpass : allPass before)
      (hrefuses : refuses = true) : refused r :=
    exec_judged_refused (i := .admitCard) rfl hnext (TakenCard.isKind_of hkind) rfl hchecks hpass hrefuses
  have hknown : s.knownSerial serial = true ↔ known := State.knownSerial_iff
  refine ⟨fun hmode => refusedBehind (before := []) rfl allPass_nil (by simpa using hmode), fun hlost hfaulted => ?_⟩
  have hmode : allPass ((s.admitChecks c).take 1) := allPass_cons.mpr ⟨by simp [hlost, hfaulted], allPass_nil⟩
  refine ⟨fun hshort => ?length, fun hlong hhigh => ?range, fun hlong hlow hempty => ?unknown,
    fun hlong hlow hrecipe => ?_⟩
  case length => exact refusedBehind (before := [_]) rfl hmode (TakenCard.badLength_eq_true_iff.mpr hshort)
  all_goals
    have hlength : allPass ((s.admitChecks c).take 2) :=
      allPass_concat hmode (TakenCard.badLength_eq_false_iff.mpr hlong)
  case range =>
    exact refusedBehind (before := [_, _]) rfl hlength
      (outside_eq_true_iff.mpr fun hin => Nat.not_lt.mpr hin.2 hhigh)
  all_goals
    have hrange : allPass ((s.admitChecks c).take 3) :=
      allPass_concat hlength (rangeCheck_passes_iff.mpr ⟨Nat.zero_le _, hlow⟩)
  case unknown => exact refusedBehind (before := [_, _, _]) rfl hrange (Option.isNone_iff_eq_none.mpr hempty)
  have hloaded : allPass ((s.admitChecks c).take 4) :=
    allPass_concat hrange (Option.isNone_eq_false_iff.mpr (Option.isSome_iff_ne_none.mpr hrecipe))
  refine ⟨fun hdup => refusedBehind (before := [_, _, _, _]) rfl hloaded (hknown.mpr hdup), fun hnew hfull => ?full,
    fun hnew hroom => ?accepted⟩
  all_goals
    have hfresh : allPass ((s.admitChecks c).take 5) :=
      allPass_concat hloaded (Bool.eq_false_iff.mpr fun hdup => hnew (hknown.mp hdup))
  case full => exact refusedBehind (before := [_, _, _, _, _]) rfl hfresh (decide_eq_true hfull)
  case accepted =>
    have hall : allPass (s.admitChecks c) :=
      allPass_concat hfresh (decide_eq_false (Nat.not_le.mpr hroom))
    refine (exec_judged_applied (i := .admitCard) rfl hnext (TakenCard.isKind_of hkind) rfl hall).trans ?_
    simp only [result, List.map_cons, List.map_nil]
    rfl

/-- Settles O20: the entry found is the one that leaves. -/
theorem withdrawOutcomes : Obligations.WithdrawOutcomes := by
  intro s c rest hnext hkind serial
  have applied (hlong : c.longEnough 8) := exec_judged_applied (i := .withdrawCard) rfl hnext
    (TakenCard.isKind_of hkind) rfl (allPass_cons.mpr ⟨TakenCard.badLength_eq_false_iff.mpr hlong, allPass_nil⟩)
  refine ⟨fun hshort => ?length, fun hlong hnone => ?unknown, fun hlong before after a hlist hbefore ha => ?left⟩
  case length =>
    exact exec_judged_refused (i := .withdrawCard) rfl hnext (TakenCard.isKind_of hkind) rfl (before := []) rfl
      allPass_nil (TakenCard.badLength_eq_true_iff.mpr hshort)
  case unknown =>
    have hfind : findAdmission (c.u64 16) s.tracker.admissions = none := findAdmission_eq_none_iff.mpr hnone
    refine (applied hlong).trans ?_
    simp only [hfind]
    rfl
  case left =>
    intro left
    have hfind : findAdmission (c.u64 16) s.tracker.admissions = some a := by
      rw [hlist, ← show a.serial = c.u64 16 from ha]
      exact findAdmission_first (ha ▸ hbefore)
    have hremove : removeAdmission (c.u64 16) s.tracker.admissions = before ++ after := by
      rw [hlist, ← show a.serial = c.u64 16 from ha]
      exact removeAdmission_first (ha ▸ hbefore)
    refine (applied hlong).trans ?_
    simp only [hfind, hremove, State.mapTracker]
    cases a.frame <;> rfl

/-! ### Slots (R156, R157) -/

/-- Settles O46: the slot's state and the report decide. -/
theorem slotReportsFollowTheTable : Obligations.SlotReportsFollowTheTable := by
  intro s slot hidle
  have judged (report : Byte) (r : SlotReport) (hcode : slotReportOf report = some r) :
      exec (.slotState slot report) s = .next (s.takeSlotState slot r) := by
    refine congrArg Host.Outcome.next ((State.receiveFrame_idle hidle _ _).trans ?_)
    rw [State.judgeSlotState, hcode]
  refine ⟨fun hhigh report => ?beyond, fun report hnot1 hnot2 => exec_slotState_undefined hidle hnot1 hnot2 slot,
    fun n hn => ?_⟩
  case beyond =>
    cases hcode : slotReportOf report with
    | none =>
      refine congrArg Host.Outcome.next ((State.receiveFrame_idle hidle _ _).trans ?_)
      rw [State.judgeSlotState, hcode]
    | some r => rw [judged report r hcode, State.takeSlotState, if_neg (Nat.not_lt.mpr hhigh)]
  intro put
  have hlt : slot.toNat < 8 := hn ▸ n.isLt
  obtain rfl : n = Fin.ofNat 8 slot.toNat := Fin.ext (by rw [hn]; exact (Nat.mod_eq_of_lt hlt).symm)
  refine ⟨?occupied, ?emptied⟩
  case occupied =>
    rw [judged 1 .occupied rfl, State.takeSlotState, if_pos hlt]
    dsimp only
    cases hslot : s.holds.slots[(Fin.ofNat 8 slot.toNat : SlotId)] with
    | free => simp only [State.setSlot, hslot]; rfl
    | _ => rfl
  case emptied =>
    rw [judged 2 .emptied rfl, State.takeSlotState, if_pos hlt]
    dsimp only
    cases hslot : s.holds.slots[(Fin.ofNat 8 slot.toNat : SlotId)] with
    | free => rfl
    | reserved m => rfl
    | assigned m =>
      simp only [State.setSlot, State.modifyRecord, State.setRecord, hslot]
      rfl
    | foreign => simp only [State.setSlot, hslot]; rfl

/-! ### A board that leaves the hold (R158, R161, R163) -/

theorem State.append_exchange_congr {u : State} (hexchange : u.exchange = s.exchange) (htime : u.lineTime = s.lineTime)
    (e : Activity) : (u.append e).exchange = (s.append e).exchange := by
  have hfull : u.listFull = s.listFull := by simp only [State.listFull, State.readIndex, hexchange]
  unfold State.append
  rw [hexchange, htime, hfull]
  split
  · simp only [State.setAttn, hexchange]
  · rfl

theorem State.driveLoader_loaderReady : s.driveLoader.tracker.loaderReady = s.driveLoader.loaderCondition := by
  rw [State.driveLoader_eq]
  rfl

theorem State.leaveHolds_holdOrder (n : Tag) : (s.leaveHolds n).holdOrder = s.holdOrder.filter (· != n) := by
  simp [State.leaveHolds, State.holdOrder]

/-- The board of a tag is freed, and its slot becomes FOREIGN; the loader-ready level follows. -/
def State.discharged (n : Tag) (l : Location) (s : State) : State := ((s.dropBoard n).makeForeign l).driveLoader

theorem State.makeForeign_holdOrder (l : Location) : (s.makeForeign l).holdOrder = s.holdOrder := by
  unfold State.makeForeign State.setSlot
  split
  · rfl
  · simp [State.holdOrder]

theorem State.discharged_keeps (n : Tag) (l : Location) :
    (s.discharged n l).coverage = s.coverage ∧ (s.discharged n l).sequencer = s.sequencer ∧
      (s.discharged n l).cure = s.cure ∧ (s.discharged n l).line = s.line ∧ (s.discharged n l).tables = s.tables := by
  simp [State.discharged]

theorem State.discharged_tracker (n : Tag) (l : Location) :
    (s.discharged n l).tracker.boards = s.tracker.boards.set n { s.record n with valid := false } ∧
      (s.discharged n l).tracker.loaderReady = (s.discharged n l).loaderCondition ∧
      (s.discharged n l).tracker.admissions = s.tracker.admissions := by
  refine ⟨?_, State.driveLoader_loaderReady, by simp [State.discharged]⟩
  rw [State.discharged, State.driveLoader_boards]
  simp only [State.makeForeign_keeps]
  rfl

theorem State.discharged_holdOrder (n : Tag) (l : Location) :
    (s.discharged n l).holdOrder = s.holdOrder.filter (· != n) := by
  have hlevel : (s.discharged n l).holdOrder = ((s.dropBoard n).makeForeign l).holdOrder := by
    simp only [State.discharged, State.holdOrder, State.driveLoader_keeps]
  rw [hlevel, State.makeForeign_holdOrder]
  exact State.leaveHolds_holdOrder n

theorem State.discharged_slot (n : Tag) (m : SlotId) :
    (s.discharged n (.slot m)).holds.slots = s.holds.slots.set m .foreign ∧
      (s.discharged n (.slot m)).exchange =
        (s.append (.slotState m .foreign s.holds.slots[m] s.holds.slots[m].tag)).exchange := by
  simp only [State.discharged, State.driveLoader_keeps, State.makeForeign, Location.slotId, State.setSlot]
  refine ⟨by simp [State.dropBoard, State.leaveHolds], State.append_exchange_congr ?_ ?_ _⟩ <;> rfl

theorem State.discharged_elsewhere (n : Tag) {l : Location} (hl : ∀ m, l ≠ .slot m) :
    l.slotId = none ∧ (s.discharged n l).holds.slots = s.holds.slots ∧ (s.discharged n l).exchange = s.exchange := by
  have hnone : l.slotId = none := by
    cases l with
    | slot m => exact absurd rfl (hl m)
    | _ => rfl
  refine ⟨hnone, ?_⟩
  simp only [State.discharged, State.makeForeign, hnone, State.driveLoader_keeps, State.dropBoard_keeps]
  exact ⟨rfl, trivial⟩

theorem State.ownedFrame_eq_some_iff {n : Tag} {f : FrameId} : s.ownedFrame n = some f ↔
    (s.record n).mapFrame = some f ∧ s.coverage.frames[f].state = .retained ∧
      s.coverage.frames[f].owner = some n := by
  unfold State.ownedFrame State.retainedFrame
  cases (s.record n).mapFrame with
  | none => simp
  | some g => grind

theorem State.freeOwned_coverage (n : Tag) :
    (∀ f, s.ownedFrame n = some f →
      (s.freeOwned n).coverage.frames = s.coverage.frames.set f ⟨.free, none, none⟩) ∧
    (s.ownedFrame n = none → s.freeOwned n = s) := by
  refine ⟨fun f hf => ?_, fun hnone => ?_⟩
  · simp only [State.freeOwned, hf]
    rfl
  · simp only [State.freeOwned, hnone]

/-! ### DISPOSE (R160-R163) -/

theorem TakenCard.isDispose_of {a : Action} (hkind : c.kind = 10) (hcode : c.u8 17 = a.code) :
    c.isDispose a = true := by
  have hten : c.isKind 10 = true := TakenCard.isKind_of hkind
  rw [TakenCard.isDispose, hten, hcode, beq_self_eq_true]
  rfl

theorem TakenCard.disposeShape_pass (hlong : c.longEnough 16) (htag : c.u8 16 ≤ 31) (haction : within (c.u8 17) 1 3) :
    allPass c.disposeShape :=
  allPass_cons.mpr ⟨TakenCard.badLength_eq_false_iff.mpr hlong, allPass_cons.mpr
    ⟨rangeCheck_passes_iff.mpr ⟨Nat.zero_le _, htag⟩, allPass_cons.mpr
      ⟨rangeCheck_passes_iff.mpr haction, allPass_nil⟩⟩⟩

theorem TakenCard.boardTag_of {n : Tag} (h : c.u8 16 = n.val) : c.boardTag = n :=
  Fin.ext (by rw [TakenCard.boardTag, h]; exact Nat.mod_eq_of_lt n.isLt)

/-- Behind its shape, a DISPOSE card is refused for its record: invalid, of another serial, or not HELD. -/
theorem State.disposeChecks_pass (hshape : allPass c.disposeShape) (hvalid : (s.record c.boardTag).valid = true)
    (hserial : (s.record c.boardTag).serial = c.u64 24) (hheld : (s.record c.boardTag).stage = .held) :
    allPass (s.disposeChecks c) :=
  allPass_append.mpr ⟨hshape, allPass_cons.mpr ⟨by simp [hvalid], allPass_cons.mpr ⟨by simp [hserial],
    allPass_cons.mpr ⟨by simp [hheld], allPass_nil⟩⟩⟩⟩

theorem State.disposeOf_eq (a : Action) (n : Tag) :
    s.disposeOf a n = ((s.freeOwned n).discharged n (s.record n).location, ⟨.ok, [word a.code,
      wordOrNone ((s.ownedFrame n).map (·.val)), wordOrNone ((s.record n).location.slotId.map (·.val))]⟩) := rfl

/-- Settles O47: the checks in turn, and the equations of a board that leaves the hold. -/
theorem disposedBoardsLeaveTheHold : Obligations.DisposedBoardsLeaveTheHold := by
  intro s c rest cmd n hnext hkind hcmd hlong htag b refused
  obtain ⟨a, heffect, hcard, hcode, hrange⟩ : ∃ a, Instr.cardEffect cmd = some (applyDispose a) ∧
      Instr.cardFits cmd c = true ∧ c.u8 17 = a.code ∧ within (c.u8 17) 1 3 := by
    simp only [List.mem_cons, Prod.mk.injEq, List.not_mem_nil, or_false] at hcmd
    obtain ⟨rfl, hcode⟩ | ⟨rfl, hcode⟩ := hcmd
    · exact ⟨.release, rfl, TakenCard.isDispose_of hkind hcode, hcode, by rw [hcode]; decide⟩
    · exact ⟨.scrap, rfl, TakenCard.isDispose_of hkind hcode, hcode, by rw [hcode]; decide⟩
  have hshape := TakenCard.disposeShape_pass hlong (htag ▸ Nat.le_of_lt_succ n.isLt) hrange
  obtain rfl : c.boardTag = n := TakenCard.boardTag_of htag
  have refusedBehind {before after : List Check} {refuses : Bool} {r : CardResult}
      (hchecks : s.disposeChecks c = c.disposeShape ++ before ++ (refuses, r) :: after) (hpass : allPass before)
      (hrefuses : refuses = true) : refused r :=
    exec_judged_refused heffect hnext hcard rfl hchecks (allPass_append.mpr ⟨hshape, hpass⟩) hrefuses
  refine ⟨fun hinvalid => ?invalid, fun hvalid hserial => ?serial, fun hvalid hserial hstage => ?stage,
    fun hvalid hserial hheld => ?disposed⟩
  case invalid => exact refusedBehind (before := []) rfl allPass_nil (by simpa using hinvalid)
  case serial =>
    exact refusedBehind (before := [_]) rfl (allPass_cons.mpr ⟨by simpa using hvalid, allPass_nil⟩)
      (by simpa using hserial)
  case stage =>
    exact refusedBehind (before := [_, _]) rfl (allPass_cons.mpr ⟨by simpa using hvalid, allPass_cons.mpr
      ⟨by simpa using hserial, allPass_nil⟩⟩) (by simpa using hstage)
  case disposed =>
    intro frees
    have hfrees {f : FrameId} : s.ownedFrame c.boardTag = some f ↔ frees f := State.ownedFrame_eq_some_iff
    have hrecord : (s.freeOwned c.boardTag).record c.boardTag = b := by
      simp only [State.record, State.freeOwned_keeps, b]
    obtain ⟨hboards, hloader, hadmissions⟩ :=
      State.discharged_tracker (s := s.freeOwned c.boardTag) c.boardTag b.location
    obtain ⟨hcoverage, hsequencer, hcure, hline, htables⟩ :=
      State.discharged_keeps (s := s.freeOwned c.boardTag) c.boardTag b.location
    have horder := State.discharged_holdOrder (s := s.freeOwned c.boardTag) c.boardTag b.location
    simp only [hrecord, State.freeOwned_keeps] at hboards hadmissions hsequencer hcure hline htables
    refine ⟨(s.freeOwned c.boardTag).discharged c.boardTag b.location, wordOrNone
        ((s.ownedFrame c.boardTag).map (·.val)),
      wordOrNone (b.location.slotId.map (·.val)), ?_, hboards, hloader, hadmissions, ?_, fun f hf => ?_, fun hnone =>
          ?_,
      fun m hm => ?_, fun hnone => ?_, hsequencer, hcure, hline, htables⟩
    · rw [hcode]
      refine (exec_judged_applied heffect hnext hcard rfl
        (State.disposeChecks_pass hshape hvalid hserial hheld)).trans ?_
      rw [State.disposeOf_eq]
    · rw [horder]
      simp only [State.holdOrder, State.freeOwned_keeps]
    · rw [hcoverage, hfrees.mpr hf]
      exact ⟨rfl, (State.freeOwned_coverage c.boardTag).1 f (hfrees.mpr hf)⟩
    · have hunowned : s.ownedFrame c.boardTag = none :=
        Option.eq_none_iff_forall_ne_some.mpr fun f hf => hnone f (hfrees.mp hf)
      rw [hcoverage, hunowned, (State.freeOwned_coverage c.boardTag).2 hunowned]
      exact ⟨rfl, rfl⟩
    · obtain ⟨hslots, hexchange⟩ := State.discharged_slot (s := s.freeOwned c.boardTag) c.boardTag m
      rw [hm, hslots, hexchange]
      simp only [State.freeOwned_keeps]
      exact ⟨rfl, trivial, State.append_exchange_congr (by simp) (by simp) _⟩
    · obtain ⟨hslot, hslots, hexchange⟩ :=
        State.discharged_elsewhere (s := s.freeOwned c.boardTag) c.boardTag hnone
      rw [hslot, hslots, hexchange]
      simp only [State.freeOwned_keeps]
      exact ⟨rfl, trivial, trivial⟩

theorem BoardRecord.barred_iff (b : BoardRecord) : b.barred = true ↔ b.hasReason .filmThick = true ∨
    b.hasReason .overcure = true ∨ b.hasReason .scorch = true ∨ b.hasReason .exitOverrun = true := by
  simp [BoardRecord.barred, or_assoc]

/-- The new admission entry of a board stands, and its frame is RESERVED for it (R163). -/
def State.readmitted (n : Tag) (f : FrameId) (s : State) : State :=
  (s.mapTracker fun k => { k with admissions := k.admissions ++
    [Admission.mk (s.record n).serial (s.record n).recipe ((s.record n).pass + 1) (some f)] }).setFrame f
      ⟨.reserved, none, some ((s.record n).pass + 1)⟩

theorem State.recoat_eq {n : Tag} {f : FrameId} (hframe : (s.record n).mapFrame = some f) :
    s.recoat n = ((s.readmitted n f).discharged n (s.record n).location,
      ⟨.ok, [3, word f.val, word ((s.record n).pass + 1), word (s.tracker.admissions.length + 1)]⟩) := by
  simp only [State.recoat, hframe]
  rfl

/-- Settles O48: the checks in turn, and the equations of a board that leaves the hold. -/
theorem recoatsReturnToTheLoader : Obligations.RecoatsReturnToTheLoader := by
  intro s c rest n hnext hkind hcode hlong htag b hvalid hserial hheld refused barred
  have hcard : Instr.cardFits .disposeRecoat c = true := TakenCard.isDispose_of hkind hcode
  have hshape := TakenCard.disposeShape_pass hlong (htag ▸ Nat.le_of_lt_succ n.isLt) (by rw [hcode]; decide)
  obtain rfl : c.boardTag = n := TakenCard.boardTag_of htag
  have hdispose := State.disposeChecks_pass hshape hvalid hserial hheld
  have refusedBehind {before after : List Check} {refuses : Bool} {r : CardResult}
      (hchecks : s.recoatChecks c.boardTag = before ++ (refuses, r) :: after) (hpass : allPass before)
      (hrefuses : refuses = true) : refused r :=
    exec_judged_refused (i := .disposeRecoat) (before := s.disposeChecks c ++ before) (after := after) rfl hnext hcard
      rfl (by rw [hchecks, List.append_assoc]) (allPass_append.mpr ⟨hdispose, hpass⟩) hrefuses
  have hbarred : b.barred = true ↔ barred := b.barred_iff
  have hnever {start : Option Time} (h : start ≠ none) : start.isNone = false :=
    Option.isNone_eq_false_iff.mpr (Option.isSome_iff_ne_none.mpr h)
  refine ⟨fun hstart => ?unsprayed, fun hstart hbar => ?barred, fun hstart hbar hframe => ?unmapped,
    fun f hstart hbar hframe => ⟨fun hrecipe => ?unloaded, fun r hrecipe => ?_⟩⟩
  case unsprayed => exact refusedBehind (before := []) rfl allPass_nil (Option.isNone_iff_eq_none.mpr hstart)
  all_goals
    have hsprayed : allPass ((s.recoatChecks c.boardTag).take 1) := allPass_cons.mpr ⟨hnever hstart, allPass_nil⟩
  case barred =>
    have hdetail : (⟨.refusedState, [3, b.reasons]⟩ : CardResult) = result .refusedState [3, b.reasons.toNat] := by
      simp [result, word]
    rw [hdetail]
    exact refusedBehind (before := [_]) rfl hsprayed (hbarred.mpr hbar)
  all_goals
    have hclean : allPass ((s.recoatChecks c.boardTag).take 2) :=
      allPass_concat hsprayed (Bool.eq_false_iff.mpr fun h => hbar (hbarred.mp h))
  case unmapped => exact refusedBehind (before := [_, _]) rfl hclean (Option.isNone_iff_eq_none.mpr hframe)
  all_goals
    have hmapped : allPass ((s.recoatChecks c.boardTag).take 3) :=
      allPass_concat hclean (Option.isNone_eq_false_iff.mpr (Option.isSome_of_mem hframe))
  case unloaded => exact refusedBehind (before := [_, _, _]) rfl hmapped (Option.isNone_iff_eq_none.mpr hrecipe)
  have hloaded : allPass ((s.recoatChecks c.boardTag).take 4) :=
    allPass_concat hmapped (Option.isNone_eq_false_iff.mpr (Option.isSome_of_mem hrecipe))
  have htable : s.recipe b.recipe = r := by rw [State.recipe, hrecipe]; rfl
  have hlimit : (s.recipe (s.record c.boardTag).recipe).recoatLimit = r.recoatLimit := congrArg _ htable
  refine ⟨fun hpass => ?limit, fun hpass hshut => ?late, fun hpass hopen => ?_⟩
  case limit =>
    have hdetail : (⟨.refusedRange, [17, word b.pass, word r.recoatLimit]⟩ : CardResult) =
        result .refusedRange [17, b.pass, (s.recipe (s.record c.boardTag).recipe).recoatLimit] := by
      rw [hlimit]
      rfl
    rw [hdetail]
    exact refusedBehind (before := [_, _, _, _]) rfl hloaded (decide_eq_true (hlimit ▸ hpass))
  all_goals
    have hwithin : allPass ((s.recoatChecks c.boardTag).take 5) :=
      allPass_concat hloaded (decide_eq_false (Nat.not_lt.mpr (hlimit ▸ hpass)))
  case late => exact refusedBehind (before := [_, _, _, _, _]) rfl hwithin (by simpa using hshut)
  have hintime : allPass ((s.recoatChecks c.boardTag).take 6) := allPass_concat hwithin (by simpa using hopen)
  intro full
  refine ⟨fun hfull => ?frames, fun hroom hfull => ?list, fun hroom hshort => ?recoated⟩
  case frames => exact refusedBehind (before := [_, _, _, _, _, _]) rfl hintime (decide_eq_true hfull)
  all_goals
    have hframes : allPass ((s.recoatChecks c.boardTag).take 7) :=
      allPass_concat hintime (decide_eq_false (Nat.not_le.mpr hroom))
  case list => exact refusedBehind (before := [_, _, _, _, _, _, _]) rfl hframes (decide_eq_true hfull)
  case recoated =>
    have hall : allPass (s.recoatChecks c.boardTag) :=
      allPass_concat hframes (decide_eq_false (Nat.not_le.mpr hshort))
    obtain ⟨hboards, hloader, hadmissions⟩ :=
      State.discharged_tracker (s := s.readmitted c.boardTag f) c.boardTag b.location
    obtain ⟨hcoverage, hsequencer, hcure, hline, htables⟩ :=
      State.discharged_keeps (s := s.readmitted c.boardTag f) c.boardTag b.location
    refine ⟨(s.readmitted c.boardTag f).discharged c.boardTag b.location, ?_, hadmissions, hboards, hloader,
      congrArg Coverage.frames hcoverage, State.discharged_holdOrder _ _, fun m hm => ?_, fun hnone => ?_, hsequencer,
      hcure, hline, htables⟩
    · refine (exec_judged_applied (i := .disposeRecoat) rfl hnext hcard rfl
        (allPass_append.mpr ⟨hdispose, hall⟩)).trans ?_
      rw [State.recoat_eq hframe]
    · obtain ⟨hslots, hexchange⟩ := State.discharged_slot (s := s.readmitted c.boardTag f) c.boardTag m
      rw [hm]
      exact ⟨hslots, hexchange.trans (State.append_exchange_congr (u := s.readmitted c.boardTag f) (s := s) rfl rfl _)⟩
    · exact (State.discharged_elsewhere (s := s.readmitted c.boardTag f) c.boardTag hnone).2

/-! ### RECLAIM_MAP (R165) -/

/-- Settles O49: the checks in turn, and the freed frame. -/
theorem reclaimMapFreesTheFrame : Obligations.ReclaimMapFreesTheFrame := by
  intro s c rest hnext hkind refused
  have refusedBehind {before after : List Check} {refuses : Bool} {r : CardResult}
      (hchecks : s.reclaimChecks c = before ++ (refuses, r) :: after) (hpass : allPass before)
      (hrefuses : refuses = true) : refused r :=
    exec_judged_refused (i := .reclaimMap) rfl hnext (TakenCard.isKind_of hkind) rfl hchecks hpass hrefuses
  refine ⟨fun hshort => ?length, fun hlong hhigh => ?range, fun n hlong htag => ?_⟩
  case length => exact refusedBehind (before := []) rfl allPass_nil (TakenCard.badLength_eq_true_iff.mpr hshort)
  all_goals
    have hlength : allPass ((s.reclaimChecks c).take 1) :=
      allPass_cons.mpr ⟨TakenCard.badLength_eq_false_iff.mpr hlong, allPass_nil⟩
  case range =>
    exact refusedBehind (before := [_]) rfl hlength
      (outside_eq_true_iff.mpr fun hin => Nat.not_lt.mpr hin.2 hhigh)
  obtain rfl : c.boardTag = n := TakenCard.boardTag_of htag
  have hrange : allPass ((s.reclaimChecks c).take 2) := allPass_concat hlength
    (rangeCheck_passes_iff.mpr ⟨Nat.zero_le _, htag ▸ Nat.le_of_lt_succ (Fin.isLt _)⟩)
  intro b
  refine ⟨fun hinvalid => ?invalid, fun hvalid hnone => ?unmapped, fun hvalid f hframe => ?_⟩
  case invalid => exact refusedBehind (before := [_, _]) rfl hrange (by simpa using hinvalid)
  all_goals
    have hboard : allPass ((s.reclaimChecks c).take 3) := allPass_concat hrange (by simpa using hvalid)
  case unmapped => exact refusedBehind (before := [_, _, _]) rfl hboard (Option.isNone_iff_eq_none.mpr hnone)
  have hmapped : allPass ((s.reclaimChecks c).take 4) :=
    allPass_concat hboard (Option.isNone_eq_false_iff.mpr (Option.isSome_of_mem hframe))
  have hrecord : (s.record c.boardTag).mapFrame = some f := hframe
  have hchecks : s.reclaimChecks c = (s.reclaimChecks c).take 4 ++ [(s.coverage.frames[f].state != .retained,
      result .refusedState [s.coverage.frames[f].state.code, f.val])] := by
    simp only [State.reclaimChecks, hrecord]
    rfl
  refine ⟨fun hstate => ?state, fun hstate => ?freed⟩
  case state => exact refusedBehind hchecks hmapped (by simpa using hstate)
  case freed =>
    have hall : allPass (s.reclaimChecks c) := hchecks ▸ allPass_concat hmapped (by simpa using hstate)
    refine (exec_judged_applied (i := .reclaimMap) rfl hnext (TakenCard.isKind_of hkind) rfl hall).trans ?_
    simp only [hrecord]
    rfl

end Sys2Proof.Machine
end

section
/-! PROOFS. Mask verification and arrivals (chapters 1 and 4): what a completed verification leaves, which results
complete one, and what the match of an arrival writes. -/

namespace Sys2Proof.Machine

variable {s : State}

theorem reached_iff {deadline now : Time} : reached deadline now = true ↔ (now - deadline).toNat < 2 ^ 31 := by
  simp [reached]

theorem reached_eq_false_iff {deadline now : Time} :
    reached deadline now = false ↔ 2 ^ 31 ≤ (now - deadline).toNat := by
  simp [reached]

/-- The records depend on the tracker's boards alone. -/
theorem State.record_of_boards {u : State} (h : u.tracker.boards = s.tracker.boards) (n : Tag) :
    u.record n = s.record n := by
  simp only [State.record, h]

@[simp] theorem State.append_record (e : Activity) (n : Tag) : (s.append e).record n = s.record n :=
  State.record_of_boards (by simp) n

@[simp] theorem State.driveLoader_record (n : Tag) : s.driveLoader.record n = s.record n :=
  State.record_of_boards (by simp) n

@[simp] theorem State.driveGate_record (n : Tag) : s.driveGate.record n = s.record n :=
  State.record_of_boards (by simp) n

theorem State.modifyRecord_same (n : Tag) (f : BoardRecord → BoardRecord) :
    (s.modifyRecord n f).record n = f (s.record n) :=
  (State.record_modifyRecord s n n f).trans (if_pos rfl)

theorem State.modifyRecord_other {n m : Tag} (h : m ≠ n) (f : BoardRecord → BoardRecord) :
    (s.modifyRecord n f).record m = s.record m :=
  (State.record_modifyRecord s n m f).trans (if_neg h)

/-! ### Mask results (R72-R74) -/

section
variable {results : Vector MaskResult 8} {count : Nat}

theorem maskResults_getD (k : Fin 8) : results.toList.getD k.val .unread = results[k] := by
  simp [List.getD]

theorem allPresent_iff (hcount : count ≤ 8) :
    allPresent results count = true ↔ ∀ k : Fin 8, k.val < count → results[k] = .present := by
  simp only [allPresent, List.all_eq_true, List.mem_range, beq_iff_eq]
  refine ⟨fun h k hk => maskResults_getD k ▸ h k.val hk, fun h k hk => ?_⟩
  exact (maskResults_getD ⟨k, hk.trans_le hcount⟩).trans (h ⟨k, hk.trans_le hcount⟩ hk)

theorem anyUnread_iff (hcount : count ≤ 8) :
    anyUnread results count = true ↔ ∃ k : Fin 8, k.val < count ∧ results[k] = .unread := by
  simp only [anyUnread, List.any_eq_true, List.mem_range, beq_iff_eq]
  refine ⟨fun ⟨k, hk, hunread⟩ => ⟨⟨k, hk.trans_le hcount⟩, hk, ?_⟩, fun ⟨k, hk, hunread⟩ => ⟨k.val, hk, ?_⟩⟩
  · exact (maskResults_getD ⟨k, hk.trans_le hcount⟩).symm.trans hunread
  · rw [maskResults_getD, hunread]

theorem maskOutcome_reject (hcount : count ≤ 8)
    (hmissing : ∃ k : Fin 8, k.val < count ∧ results[k] ≠ .present) :
    maskOutcome .reject results count = .reject := by
  have hall : ¬allPresent results count = true := fun h => by
    obtain ⟨k, hk, habsent⟩ := hmissing
    exact habsent ((allPresent_iff hcount).mp h k hk)
  rw [maskOutcome, if_neg hall]

theorem maskOutcome_pass (hcount : count ≤ 8) {policy : MaskPolicy}
    (h : (¬∃ k : Fin 8, k.val < count ∧ results[k] ≠ .present) ∨ policy = .sprayAround) :
    maskOutcome policy results count = .pass := by
  unfold maskOutcome
  split
  · rfl
  next hall =>
    obtain hpresent | rfl := h
    · refine absurd ((allPresent_iff hcount).mpr fun k hk => ?_) hall
      by_contra habsent
      exact hpresent ⟨k, hk, habsent⟩
    · rfl

end

theorem State.modifyRecord_id (n : Tag) {f : BoardRecord → BoardRecord} (h : f (s.record n) = s.record n) :
    s.modifyRecord n f = s := by
  rw [State.modifyRecord, h, State.setRecord, State.record]
  simp

theorem State.completeVerification_passed {n : Tag} {count : Nat}
    (h : maskOutcome (s.boardRecipe n).maskPolicy (s.record n).maskResults count = .pass) :
    s.completeVerification n count =
      ({ s with verifier := ⟨.idle, .pass⟩ } : State).append (.maskDone n .pass (s.record n).maskResults) := by
  have hkept : s.modifyRecord n (BoardRecord.addReasonIf false .maskMissing) = s := State.modifyRecord_id n rfl
  rw [State.completeVerification, h, show (MaskOutcome.pass == .reject) = false from rfl, hkept]

theorem State.completeVerification_rejected {n : Tag} {count : Nat}
    (h : maskOutcome (s.boardRecipe n).maskPolicy (s.record n).maskResults count = .reject) :
    s.completeVerification n count =
      ({ s.modifyRecord n (BoardRecord.addReason .maskMissing) with verifier := ⟨.idle, .reject⟩ } : State).append
        (.maskDone n .reject (s.record n).maskResults) := by
  rw [State.completeVerification, h]
  rfl

/-- Settles O22: the results decide whether the verification completes, and its outcome what is written. -/
theorem maskResultsDecideTheOutcome : Obligations.MaskResultsDecideTheOutcome := by
  refine ⟨fun s index value v hidle hvalue => ?results, fun s n count deadline hrun => ⟨fun hnone => ?_, fun hruns =>
    ⟨fun hreached => ?_, fun hearly => ?_⟩⟩, fun s n count hcount => ?outcome⟩
  case results =>
    have taken : exec (.maskResult index value) s = .next (s.takeMaskResult index v) := by
      refine congrArg Host.Outcome.next ((State.receiveFrame_idle hidle _ _).trans ?_)
      obtain ⟨rfl, rfl⟩ | ⟨rfl, rfl⟩ := hvalue <;> rfl
    refine ⟨fun hnone => ?_, fun n count deadline hruns => ⟨fun houtside => ?_, fun i hi hlt hcount => ?_⟩⟩
    · simp only [taken, State.takeMaskResult, hnone]
    · simp only [taken, State.takeMaskResult, hruns]
      rw [if_neg (by omega)]
    · obtain rfl : i = Fin.ofNat 8 index.toNat := Fin.ext (by rw [hi]; exact (Nat.mod_eq_of_lt (by omega)).symm)
      intro results u
      have hwritten : exec (.maskResult index value) s =
          .next (if anyUnread (u.record n).maskResults count then u else u.completeVerification n count) := by
        simp only [taken, State.takeMaskResult, hruns]
        rw [if_pos ⟨hlt, hlt.trans_le hcount⟩]
        rfl
      have hresults : (u.record n).maskResults = results := by
        simp only [u, State.record_modifyRecord, if_true]
      rw [hwritten, hresults]
      refine ⟨fun hunread => ?_, fun hread => ?_⟩
      · rw [if_pos ((anyUnread_iff hcount).mpr hunread)]
      · rw [if_neg fun h => ?_]
        obtain ⟨k, hk, hunread⟩ := (anyUnread_iff hcount).mp h
        exact hread k hk hunread
  case outcome =>
    intro t missing
    by_cases hreject : missing ∧ (s.boardRecipe n).maskPolicy = .reject
    · obtain ⟨hmissing, hpolicy⟩ := hreject
      have ht : t = _ := State.completeVerification_rejected (hpolicy ▸ maskOutcome_reject hcount hmissing)
      rw [ht]
      simp only [State.append_keeps, State.append_record]
      refine ⟨trivial, fun _ => ⟨trivial, congrArg _ (State.modifyRecord_same n _)⟩, fun hpass => ?_,
        fun m hm => State.modifyRecord_other hm _, ?_, rfl, rfl, rfl, rfl, rfl, rfl, rfl⟩
      · obtain hpresent | hspray := hpass
        · exact absurd hmissing hpresent
        · exact MaskPolicy.noConfusion (hpolicy.symm.trans hspray)
      · refine State.append_exchange_congr ?_ ?_ _ <;> rfl
    · have hpass : ¬missing ∨ (s.boardRecipe n).maskPolicy = .sprayAround := by
        by_cases hmissing : missing
        · cases hpolicy : (s.boardRecipe n).maskPolicy with
          | reject => exact absurd ⟨hmissing, hpolicy⟩ hreject
          | sprayAround => exact .inr rfl
        · exact .inl hmissing
      have ht : t = _ := State.completeVerification_passed (maskOutcome_pass hcount hpass)
      rw [ht]
      simp only [State.append_keeps, State.append_record]
      refine ⟨trivial, fun h => absurd h hreject, fun _ => ⟨trivial, rfl⟩, fun m hm => rfl, ?_, ?_⟩
      · refine State.append_exchange_congr ?_ ?_ _ <;> rfl
      · simp only [and_self]
  · refine congrArg Host.Outcome.next ((State.live_running hrun _).trans ?_)
    simp only [State.expireVerification, hnone]
  · refine congrArg Host.Outcome.next ((State.live_running hrun _).trans ?_)
    simp only [State.expireVerification, hruns]
    rw [if_pos (reached_iff.mpr hreached)]
  · refine congrArg Host.Outcome.next ((State.live_running hrun _).trans ?_)
    simp only [State.expireVerification, hruns]
    rw [reached_eq_false_iff.mpr hearly]
    rfl

/-! ### Arrivals (R5, R6, R71) -/

theorem exec_arrival_serial (h : s.idlePort .station) (serial : Serial) :
    exec (.arrival 1 serial) s = .next (s.takeArrival (some serial)) :=
  congrArg Host.Outcome.next (State.receiveFrame_idle h _ _)

theorem exec_arrival_unread (h : s.idlePort .station) (serial : Serial) :
    exec (.arrival 2 serial) s = .next (s.takeArrival none) :=
  congrArg Host.Outcome.next (State.receiveFrame_idle h _ _)

/-- The lowest tag that is free heads the free tags. -/
theorem State.freeTags_head {n : Tag} (hfree : (s.record n).valid = false)
    (hlower : ∀ m < n, (s.record m).valid = true) : ∃ later, s.freeTags = n :: later := by
  obtain ⟨lower, higher, hsplit⟩ := List.append_of_mem (List.mem_finRange n)
  have hsorted := List.pairwise_lt_finRange 32
  rw [hsplit, List.pairwise_append] at hsorted
  have hnone : lower.filter (fun m => !(s.record m).valid) = [] :=
    List.filter_eq_nil_iff.mpr fun m hm => by
      simp [hlower m (hsorted.2.2 m hm n List.mem_cons_self)]
  refine ⟨higher.filter fun m => !(s.record m).valid, ?_⟩
  rw [State.freeTags, allTags, hsplit, List.filter_append, hnone, List.filter_cons_of_pos (by simp [hfree])]
  rfl

theorem State.startVerification_unmasked {n : Tag} (h : (s.boardRecipe n).maskCount = 0) :
    s.startVerification n =
      ({ s with verifier := ⟨.idle, .pass⟩ } : State).append (.maskDone n .pass (s.record n).maskResults) := by
  rw [State.startVerification]
  simp only [h, if_true]
  exact State.completeVerification_passed rfl

theorem State.startVerification_masked {n : Tag} (h : (s.boardRecipe n).maskCount ≠ 0) :
    s.startVerification n = ({ s with verifier := ⟨.verifying n (s.boardRecipe n).maskCount
      (s.lineTime + word (s.boardRecipe n).verifyTimeout), .none⟩ } : State).send
        (.inspect (s.boardRecipe n).maskCount) := by
  rw [State.startVerification]
  exact if_neg h

theorem State.startVerification_tracker (n : Tag) : (s.startVerification n).tracker = s.tracker := by
  by_cases h : (s.boardRecipe n).maskCount = 0
  · rw [State.startVerification_unmasked h]
    simp only [State.append_keeps]
  · rw [State.startVerification_masked h]
    simp only [State.send_keeps]

/-- The match of an admission entry as it is written, ahead of the loader-ready level and the entries (R6). -/
def State.matched (n : Tag) (a : Admission) (s : State) : State :=
  (({ s.mapTracker fun k => { k with admissions := removeAdmission a.serial k.admissions } with
    freeCount := s.freeCount + 1 }.setRecord n (BoardRecord.create a s.lineTime s.freeCount)).ownReserved n
      a.frame).mapTracker fun k => { k with mask := joinTail k.mask n }

/-- The match with its loader-ready level and its BOARD_ADMITTED. -/
def State.admitted (n : Tag) (a : Admission) (s : State) : State :=
  (s.matched n a).driveLoader.append (.boardAdmitted n a.serial a.pass)

theorem State.matchArrival_eq (n : Tag) (a : Admission) :
    s.matchArrival n a = (s.admitted n a).startVerification n := rfl

theorem State.matched_tracker (n : Tag) (a : Admission) : (s.matched n a).tracker = { s.tracker with
    admissions := removeAdmission a.serial s.tracker.admissions
    boards := s.tracker.boards.set n (BoardRecord.create a s.lineTime s.freeCount)
    mask := joinTail s.tracker.mask n } := by
  simp [State.matched]

@[simp] theorem State.matched_keeps (n : Tag) (a : Admission) :
    (s.matched n a).lineTime = s.lineTime ∧ (s.matched n a).exchange = s.exchange ∧
      (s.matched n a).tables = s.tables ∧ (s.matched n a).sequencer = s.sequencer ∧
      (s.matched n a).cure = s.cure ∧ (s.matched n a).holds = s.holds ∧ (s.matched n a).line = s.line ∧
      (s.matched n a).ports = s.ports := by
  simp [State.matched]

theorem State.matched_frames (n : Tag) (a : Admission) (f : FrameId) :
    (s.matched n a).coverage.frames[f] =
      if a.frame = some f then { s.coverage.frames[f] with owner := some n } else s.coverage.frames[f] := by
  rw [State.matched]
  simp only [State.mapTracker_keeps]
  cases hframe : a.frame with
  | none => rfl
  | some g =>
    refine (State.frames_setFrame _ g f _).trans ?_
    by_cases hf : f = g
    · rw [hf, if_pos rfl, if_pos rfl]
      rfl
    · rw [if_neg hf, if_neg fun h => hf (Option.some.inj h).symm]
      rfl

theorem State.matched_loaderCondition (n : Tag) (a : Admission) : (s.matched n a).loaderCondition = false := by
  simp [State.loaderCondition, State.matched_tracker, joinTail]

theorem State.admitted_tracker (n : Tag) (a : Admission) : (s.admitted n a).tracker = { s.tracker with
    admissions := removeAdmission a.serial s.tracker.admissions
    boards := s.tracker.boards.set n (BoardRecord.create a s.lineTime s.freeCount)
    mask := joinTail s.tracker.mask n
    loaderReady := false } := by
  simp only [State.admitted, State.append_keeps, State.driveLoader_eq, State.matched_tracker,
    State.matched_loaderCondition]

theorem State.admitted_record (n m : Tag) (a : Admission) : (s.admitted n a).record m =
    if m = n then BoardRecord.create a s.lineTime s.freeCount else s.record m :=
  (State.record_of_boards (s := s.setRecord n (BoardRecord.create a s.lineTime s.freeCount))
    (by rw [State.admitted_tracker]; rfl) m).trans (State.record_setRecord ..)

theorem State.admitted_ports (n : Tag) (a : Admission) : (s.admitted n a).ports = { s.ports with
    station := if s.tracker.loaderReady = true then s.ports.station.issue (.loaderReady false)
      else s.ports.station } := by
  simp only [State.admitted, State.append_keeps, State.driveLoader_eq, State.matched_tracker,
    State.matched_loaderCondition, State.matched_keeps]
  cases s.tracker.loaderReady <;> rfl

theorem State.admitted_exchange (n : Tag) (a : Admission) :
    (s.admitted n a).exchange = (s.append (.boardAdmitted n a.serial a.pass)).exchange :=
  State.append_exchange_congr (by simp) (by simp) _

theorem State.admitted_recipe (n : Tag) (a : Admission) : (s.admitted n a).boardRecipe n = s.recipe a.recipe := by
  rw [State.boardRecipe, State.admitted_record, if_pos rfl]
  simp [State.recipe, State.admitted, BoardRecord.create]

/-- Settles O21: the loader condition, the serial and its entry decide; the match is written ahead of its entries. -/
theorem arrivalsAreRefusedOrBecomeBoards : Obligations.ArrivalsAreRefusedOrBecomeBoards := by
  refine ⟨fun s serial hidle => ?refused,
    fun s serial before after a n hidle hmode hmask hfree hlower hlist hbefore ha => ?matched⟩
  case' refused =>
    intro ready
    refine ⟨fun hnot => ?notReady, fun hready => ⟨?noRead, fun hnone => ?unknown⟩⟩
  case notReady =>
    have hcondition : s.loaderCondition = false := Bool.eq_false_iff.mpr fun h => hnot (State.loaderCondition_iff.mp h)
    rw [exec_arrival_serial hidle, exec_arrival_unread hidle, State.takeArrival, State.takeArrival, hcondition]
    exact ⟨rfl, rfl⟩
  case noRead =>
    rw [exec_arrival_unread hidle, State.takeArrival, State.loaderCondition_iff.mpr hready]
    rfl
  case unknown =>
    rw [exec_arrival_serial hidle, State.takeArrival, State.loaderCondition_iff.mpr hready]
    simp only [findAdmission_eq_none_iff.mpr hnone, if_true]
  case matched =>
    obtain rfl := ha
    obtain ⟨later, htags⟩ := State.freeTags_head hfree hlower
    have hfind : findAdmission a.serial s.tracker.admissions = some a := hlist ▸ findAdmission_first hbefore
    have hremove : removeAdmission a.serial s.tracker.admissions = before ++ after :=
      hlist ▸ removeAdmission_first hbefore
    have htaken : s.takeArrival (some a.serial) = s.matchArrival n a := by
      rw [State.takeArrival, State.loaderCondition_iff.mpr ⟨hmode, hmask, n, hfree⟩]
      simp only [hfind, htags, if_true]
    refine ⟨s.matchArrival n a, (exec_arrival_serial hidle _).trans (congrArg _ htaken), ?_⟩
    have htime : (s.admitted n a).lineTime = s.lineTime := by simp [State.admitted]
    have htracker : (s.matchArrival n a).tracker = _ :=
      (State.startVerification_tracker n).trans (State.admitted_tracker n a)
    have hrecord (m : Tag) := (State.record_of_boards (s := s.admitted n a) (u := s.matchArrival n a)
      (congrArg Tracker.boards (State.startVerification_tracker n)) m).trans (State.admitted_record n m a)
    refine ⟨by rw [htracker, hremove], by rw [htracker, hmask]; rfl, by rw [htracker],
      fun m hm => (hrecord m).trans (if_neg hm), (hrecord n).trans (if_pos rfl), fun f => ?_, fun hcount => ?_,
      fun hcount => ?_, ?_, by simp, by simp, by simp, by simp, by simp⟩
    · have hcoverage : (s.matchArrival n a).coverage = (s.matched n a).coverage := by
        simp only [State.matchArrival_eq, State.startVerification_keeps, State.admitted, State.append_keeps,
          State.driveLoader_keeps]
      rw [hcoverage]
      exact State.matched_frames n a f
    · have hunmasked : ((s.admitted n a).boardRecipe n).maskCount = 0 := by rw [State.admitted_recipe, hcount]
      have hblank : (BoardRecord.create a s.lineTime s.freeCount).maskResults = Vector.replicate 8 .unread := rfl
      rw [State.matchArrival_eq, State.startVerification_unmasked hunmasked, State.admitted_record, if_pos rfl, hblank]
      refine ⟨by simp only [State.append_keeps], State.append_exchange_congr ?_ ?_ _⟩
      · exact State.admitted_exchange n a
      · simpa only [State.append_keeps] using htime
    · have hmasked : ((s.admitted n a).boardRecipe n).maskCount ≠ 0 := by rwa [State.admitted_recipe]
      rw [State.matchArrival_eq, State.startVerification_masked hmasked, State.admitted_recipe]
      simp only [State.send_keeps, htime]
      exact ⟨trivial, State.admitted_exchange n a⟩
    · intro level
      by_cases hcount : (s.recipe a.recipe).maskCount = 0
      · have hunmasked : ((s.admitted n a).boardRecipe n).maskCount = 0 := by rw [State.admitted_recipe, hcount]
        rw [State.matchArrival_eq, State.startVerification_unmasked hunmasked, if_pos hcount]
        simp only [State.append_keeps]
        exact State.admitted_ports n a
      · have hmasked : ((s.admitted n a).boardRecipe n).maskCount ≠ 0 := by rwa [State.admitted_recipe]
        rw [State.matchArrival_eq, State.startVerification_masked hmasked, State.admitted_recipe, if_neg hcount]
        simp only [State.send_ports, State.admitted_ports]
        rfl

end Sys2Proof.Machine
end

section
/-! PROOFS. The station transfers (chapters 1, 4, 5 and 9): route codes, the start of a transfer, and what each
completion or fault leaves. -/

namespace Sys2Proof.Machine

variable {s : State}

/-! ### Answers for a route (R18-R20) -/

theorem routeOfCode_of_eq {code : Byte} {r : Route} (h : routeCode r = code.toNat) : routeOfCode code = some r := by
  rw [routeOfCode, ← h]
  cases r <;> rfl

theorem routeOfCode_byte (r : Route) : routeOfCode (byte (routeCode r)) = some r :=
  routeOfCode_of_eq (by cases r <;> rfl)

theorem routeOfCode_eq_none {code : Byte} (h : code.toNat = 0 ∨ 6 < code.toNat) : routeOfCode code = none := by
  unfold routeOfCode
  split
  case h_7 => rfl
  all_goals omega

theorem exec_transferDone {code : Byte} {r : Route} (h : s.idlePort .station) (hcode : routeOfCode code = some r) :
    exec (.transferDone code) s = .next (s.takeTransferDone r) := by
  refine congrArg Host.Outcome.next ((State.receiveFrame_idle h _ _).trans ?_)
  rw [State.judgeTransferDone, hcode]

theorem exec_transferFault {code : Byte} {r : Route} (h : s.idlePort .station) (hcode : routeOfCode code = some r) :
    exec (.transferFault code) s = .next (s.takeTransferFault r) := by
  refine congrArg Host.Outcome.next ((State.receiveFrame_idle h _ _).trans ?_)
  rw [State.judgeTransferFault, hcode]

theorem exec_transferAnswer_unrouted {code : Byte} (h : s.idlePort .station) (hcode : routeOfCode code = none) :
    exec (.transferDone code) s = .next s ∧ exec (.transferFault code) s = .next s := by
  refine ⟨congrArg Host.Outcome.next ((State.receiveFrame_idle h _ _).trans ?_),
    congrArg Host.Outcome.next ((State.receiveFrame_idle h _ _).trans ?_)⟩
  · rw [State.judgeTransferDone, hcode]
  · rw [State.judgeTransferFault, hcode]

theorem headTag_cons (p : Place) (l : List Place) : headTag (p :: l) = some p.tag := rfl

/-- Settles O29: the route's state decides whether an answer ends the transfer. -/
theorem transferAnswersEndOrAreIgnored : Obligations.TransferAnswersEndOrAreIgnored := by
  refine ⟨fun s r d slot p l hroute hsource => ?ended, fun s code hidle hcode => ?ignored⟩
  case ended =>
    intro u
    have hfail (cause : Nat) : s.failTransfer r cause = u.raiseFault .transfer (some r) (some p.tag) cause := by
      rw [State.failTransfer, hsource, headTag_cons]
      rfl
    refine ⟨fun hidle => ?_, fun hrun hreached => ?_, fun hrun hearly => ?_⟩
    · rw [exec_transferFault hidle (routeOfCode_byte r), State.takeTransferFault, hroute]
      exact congrArg _ (hfail 1)
    · refine congrArg Host.Outcome.next ((State.live_running hrun _).trans ?_)
      simp only [hroute]
      rw [if_pos (reached_iff.mpr hreached), hfail]
    · refine congrArg Host.Outcome.next ((State.live_running hrun _).trans ?_)
      simp only [hroute]
      rw [reached_eq_false_iff.mpr hearly]
      rfl
  case ignored =>
    obtain hzero | hhigh | ⟨r, hr, hstate⟩ := hcode
    · exact exec_transferAnswer_unrouted hidle (routeOfCode_eq_none (.inl hzero))
    · exact exec_transferAnswer_unrouted hidle (routeOfCode_eq_none (.inr hhigh))
    · rw [exec_transferDone hidle (routeOfCode_of_eq hr), exec_transferFault hidle (routeOfCode_of_eq hr),
        State.takeTransferDone, State.takeTransferFault]
      obtain hroute | hroute := hstate <;> rw [hroute] <;> exact ⟨rfl, rfl⟩

/-! ### Transfer start (R16, R17) -/

/-- The lowest element that satisfies a condition is the first that a search of an ascending list finds. -/
theorem find?_lowest {k : Nat} {l : List (Fin k)} (hsorted : l.Pairwise (· < ·)) {p : Fin k → Bool} {n : Fin k}
    (hn : n ∈ l) (hp : p n = true) (hlower : ∀ m < n, m ∈ l → p m = false) : l.find? p = some n := by
  obtain ⟨before, after, rfl⟩ := List.append_of_mem hn
  have hnone : before.find? p = none := List.find?_eq_none.mpr fun m hm => by
    simp [hlower m ((List.pairwise_append.mp hsorted).2.2 m hm n List.mem_cons_self)
      (List.mem_append_left _ hm)]
  rw [List.find?_append, hnone, List.find?_cons_of_pos hp]
  rfl

theorem State.freeLane_of_lowest {n : SlotId} (hn : 6 ≤ n.val) (hfree : s.holds.slots[n] = .free)
    (hlower : ∀ m < n, 6 ≤ m.val → s.holds.slots[m] ≠ .free) : s.freeLane = some n := by
  refine find?_lowest (by decide) ?_ (by simpa using hfree) fun m hm hlane => ?_
  · exact (by decide : ∀ n : SlotId, 6 ≤ n.val → n ∈ ([6, 7] : List SlotId)) n hn
  · have hsix : 6 ≤ m.val := (by decide : ∀ m ∈ ([6, 7] : List SlotId), 6 ≤ m.val) m hlane
    simpa using hlower m hm hsix

theorem State.freeSpur_of_lowest {n : SlotId} (hn : n.val < 6) (hfree : s.holds.slots[n] = .free)
    (hlower : ∀ m < n, s.holds.slots[m] ≠ .free) : s.freeSpur = some n := by
  refine find?_lowest (by decide) ?_ (by simpa using hfree) fun m hm _ => by simpa using hlower m hm
  exact (by decide : ∀ n : SlotId, n.val < 6 → n ∈ ([0, 1, 2, 3, 4, 5] : List SlotId)) n hn

theorem LineMode.working_iff {m : LineMode} : m.working = true ↔ m = .run ∨ m = .freeze ∨ m = .drain := by
  cases m <;> simp [LineMode.working]

theorem LineMode.spraying_iff {m : LineMode} : m.spraying = true ↔ m = .run ∨ m = .drain := by
  cases m <;> simp [LineMode.spraying]

theorem exec_transferStart {r : Route} {p : Place} {l : List Place} (hrun : s.running)
    (hroute : s.tracker.route r = .idle) (hsource : s.tracker.source r = p :: l) (hmark : p.inTransit = false)
    (hcondition : s.routeCondition r p.tag = true) :
    exec (.transferStart r) s = .next (s.startRoute r p.tag) := by
  have hstart : s.startable r = some p.tag := by
    simp [State.startable, State.carried, hroute, hsource, hmark, hcondition]
  refine congrArg Host.Outcome.next ((State.live_running hrun _).trans ?_)
  simp only [hstart]

theorem State.startRoute_unslotted {r : Route} (h : s.slotFor r = none) (n : Tag) : s.startRoute r n =
    (if r = .infeedToCell then (s.beginTransfer r 0).mapSequencer fun q => { q with cell := .loading }
      else s.beginTransfer r 0).driveGate := by
  simp only [State.startRoute, h]

theorem State.startRoute_slotted {r : Route} {m : SlotId} (h : s.slotFor r = some m) (n : Tag) : s.startRoute r n =
    ((s.setSlot m (.reserved n)).beginTransfer r (slotOperand m)).driveGate := by
  have hr : r ≠ .infeedToCell := by
    rintro rfl
    cases h
  simp only [State.startRoute, h, if_neg hr]

theorem State.beginTransfer_tracker (r : Route) (slot : Nat) : (s.beginTransfer r slot).tracker =
    (s.tracker.setSource r (markHead (s.tracker.source r))).setRoute r
      (.inFlight (s.lineTime + Config.transferTime) slot) := rfl

theorem State.beginTransfer_station (r : Route) (slot : Nat) :
    (s.beginTransfer r slot).ports.station = s.ports.station.issue (.transfer r slot) := rfl

@[simp] theorem State.driveGate_station : s.driveGate.ports.station = s.ports.station := by
  unfold State.driveGate
  split <;> rfl

@[simp] theorem Tracker.source_setSource (k : Tracker) (r : Route) (l : List Place) :
    (k.setSource r l).source r = l := by
  cases r <;> rfl

theorem State.setSlot_holds (n : SlotId) (v : SlotState) :
    (s.setSlot n v).holds = { s.holds with slots := s.holds.slots.set n v } := by
  simp [State.setSlot]

theorem State.setSlot_exchange (n : SlotId) {v : SlotState} {m : Tag} (h : v.tag = some m) :
    (s.setSlot n v).exchange = (s.append (.slotState n v s.holds.slots[n] (some m))).exchange := by
  rw [State.setSlot, h]
  refine State.append_exchange_congr ?_ ?_ _ <;> rfl

/-- Settles O23: the conditions of a route make it start, and the start's equations. -/
theorem transfersStartOnTheirConditions : Obligations.TransfersStartOnTheirConditions := by
  refine ⟨fun s r p l hrun hroute hsource hmark hconditions => ?unslotted,
    fun s r p l n hrun hroute hsource hmark hfree hconditions => ?slotted⟩
  case unslotted =>
    obtain ⟨hcondition, hslot⟩ : s.routeCondition r p.tag = true ∧ s.slotFor r = none := by
      obtain ⟨rfl, houtcome, hroom, hmode⟩ | ⟨rfl, hcell, hguard, hmode⟩ | ⟨rfl, hcell, hroom, hmode⟩ |
        ⟨rfl, hverdict⟩ := hconditions
      · exact ⟨by simp [State.routeCondition, houtcome, hroom, LineMode.working_iff.mpr hmode], rfl⟩
      · exact ⟨by simp [State.routeCondition, hcell, hguard, LineMode.spraying_iff.mpr hmode], rfl⟩
      · exact ⟨by simp [State.routeCondition, hcell, hroom, LineMode.working_iff.mpr hmode], rfl⟩
      · exact ⟨by simp [State.routeCondition, hverdict], rfl⟩
    have htracker : (s.startRoute r p.tag).tracker = (s.beginTransfer r 0).tracker := by
      rw [State.startRoute_unslotted hslot]
      split <;> simp
    have hstation : (s.startRoute r p.tag).ports.station = (s.beginTransfer r 0).ports.station := by
      rw [State.startRoute_unslotted hslot]
      split <;> simp
    have hkept : (s.startRoute r p.tag).holds = s.holds ∧ (s.startRoute r p.tag).exchange = s.exchange := by
      rw [State.startRoute_unslotted hslot]
      split <;> simp
    refine ⟨_, exec_transferStart hrun hroute hsource hmark hcondition, ?_, ?_, fun q hq => ?_, ?_, hstation,
      State.startRoute_sequencer s r p.tag, hkept.1, hkept.2, by simp, by simp, by simp, by simp⟩
    all_goals rw [htracker, State.beginTransfer_tracker]
    · simp [Config.transferTime]
    · simp [hsource, markHead]
    · simp [hq]
    · simp
  case slotted =>
    intro operand
    obtain ⟨hcondition, hslot, hoperand, hr⟩ : s.routeCondition r p.tag = true ∧ s.slotFor r = some n ∧
        slotOperand n = operand ∧ r ≠ .infeedToCell := by
      obtain ⟨rfl, houtcome, hlane, hlower, hmode⟩ | ⟨rfl, hverdict, hspur, hlower⟩ := hconditions
      · have hlowest := State.freeLane_of_lowest hlane hfree hlower
        refine ⟨by simp [State.routeCondition, houtcome, hlowest, LineMode.working_iff.mpr hmode], hlowest, ?_,
          by decide⟩
        exact if_neg (Nat.not_lt.mpr hlane)
      · have hlowest := State.freeSpur_of_lowest hspur hfree hlower
        exact ⟨by simp [State.routeCondition, hverdict, hlowest], hlowest, if_pos hspur, by decide⟩
    have hsequencer := State.startRoute_sequencer s r p.tag
    rw [if_neg hr] at hsequencer
    refine ⟨_, exec_transferStart hrun hroute hsource hmark hcondition, ?_, ?_, ?_, ?_, ?_, ?_, hsequencer, by simp,
      by simp, by simp⟩
    all_goals rw [State.startRoute_slotted hslot, hoperand]
    · simp [State.beginTransfer_tracker, Config.transferTime]
    · simp [State.beginTransfer_tracker, hsource, markHead]
    · simp [State.beginTransfer_tracker]
    · simp [State.setSlot_holds]
    · simp only [State.driveGate_keeps, State.beginTransfer_keeps]
      rw [State.setSlot_exchange n (m := p.tag) rfl, hfree]
    · simp [State.beginTransfer_station]

/-! ### Completions into a list (R18, R75, R105, R113, R129) -/

theorem State.takeTransferDone_inFlight {r : Route} {d : Time} {slot : Nat} {p : Place} {l : List Place}
    (hroute : s.tracker.route r = .inFlight d slot) (hsource : s.tracker.source r = p :: l) :
    s.takeTransferDone r = (s.endTransfer r).completeRoute r p.tag slot := by
  rw [State.takeTransferDone, hroute, hsource, headTag_cons]

@[simp] theorem State.driveGate_gateWanted : s.driveGate.gateWanted = s.gateWanted := by
  unfold State.driveGate
  split <;> rfl

theorem State.driveGate_reexamined : s.driveGate.cure = { s.cure with gate := s.driveGate.gateWanted } := by
  rw [State.driveGate_cure, State.driveGate_gateWanted]

theorem State.setCell_exchange (v : CellState) (cause : Option StopCause) : (s.setCell v cause).exchange =
    (s.append (.cellState (if v = .idle then none else s.cellBoard) v s.sequencer.cell cause)).exchange := by
  rw [State.setCell]
  refine State.append_exchange_congr ?_ ?_ _ <;> rfl

theorem FrameEntry.retain_eq (e : FrameEntry) :
    e.retain = if e.state = .active then { e with state := .retained } else e := rfl

/-- Settles O24: the board's move, and the equations of the loader-ready level and the gate. -/
theorem transfersIntoAListComplete : Obligations.TransfersIntoAListComplete := by
  refine ⟨fun s d slot p l hidle hroute hlist => ?infeed, fun s d slot p hidle hroute hlist => ?flash⟩
  case infeed =>
    have hdone := State.takeTransferDone_inFlight (s := s) (r := .maskToInfeed) hroute hlist
    refine ⟨_, (exec_transferDone hidle (r := .maskToInfeed) rfl).trans (congrArg _ hdone), ?_⟩
    simp only [State.completeRoute, State.doneMaskToInfeed, State.driveLoader_eq]
    refine ⟨rfl, ?_, rfl, rfl, rfl, rfl, rfl, rfl, rfl, rfl, rfl⟩
    exact congrArg List.tail hlist
  case flash =>
    have hdone := State.takeTransferDone_inFlight (s := s) (r := .cellToFlash) hroute hlist
    refine ⟨_, (exec_transferDone hidle (r := .cellToFlash) rfl).trans (congrArg _ hdone), ?_⟩
    simp only [State.completeRoute, State.doneCellToFlash, State.driveGate_keeps, State.setCell_keeps]
    refine ⟨rfl, congrArg List.tail hlist, rfl, rfl, by simp, fun f => ?_, ?_, ?_, by simp, by simp, by simp, by simp⟩
    · exact Vector.getElem_map ..
    · rw [State.setCell_exchange]
      refine State.append_exchange_congr ?_ ?_ _ <;> rfl
    · rw [State.driveGate_reexamined]
      simp

/-! ### The divert decision and the line empty report (R151, R170) -/

@[simp] theorem State.endTransfer_record (r : Route) (m : Tag) : (s.endTransfer r).record m = s.record m :=
  State.record_of_boards (by simp) m

theorem State.divert_record (m : Tag) : s.divert.record m = if headTag s.tracker.cool = some m then
    { s.record m with verdict := if (s.record m).reasons = 0 then .pass else .hold } else s.record m := by
  unfold State.divert
  cases hhead : headTag s.tracker.cool with
  | none => rfl
  | some n =>
    refine (State.record_modifyRecord s n m _).trans ?_
    by_cases hm : m = n
    · subst hm
      rw [if_pos rfl, if_pos rfl]
    · rw [if_neg hm, if_neg fun h => hm (Option.some.inj h).symm]

theorem State.divert_tracker : s.divert.tracker = { s.tracker with boards := s.divert.tracker.boards } := by
  unfold State.divert
  split <;> rfl

theorem State.driveLoader_tracker : s.driveLoader.tracker = { s.tracker with loaderReady := s.loaderCondition } := by
  rw [State.driveLoader_eq]

@[simp] theorem State.driveLoader_gateWanted : s.driveLoader.gateWanted = s.gateWanted := by
  rw [State.driveLoader_eq]
  rfl

theorem State.endsDrain.congr {u t : State} {p q : Prop} (h : u.endsDrain p t) (hiff : p ↔ q) : u.endsDrain q t :=
  propext hiff ▸ h

/-- The line is empty beside a board that is freed or HELD. -/
theorem State.lineEmpty_beside {u : State} {n : Tag}
    (hgone : (u.record n).valid = true → (u.record n).stage = .held)
    (hother : ∀ m, m ≠ n → (u.record m).valid = (s.record m).valid ∧ (u.record m).stage = (s.record m).stage) :
    u.lineEmpty = true ↔ ∀ m, m ≠ n → (s.record m).valid = true → (s.record m).stage = .held := by
  rw [State.lineEmpty_iff]
  refine ⟨fun h m hm => ?_, fun h m => ?_⟩
  · obtain ⟨hvalid, hstage⟩ := hother m hm
    rw [← hvalid, ← hstage]
    exact h m
  · by_cases hm : m = n
    · exact hm ▸ hgone
    · obtain ⟨hvalid, hstage⟩ := hother m hm
      rw [hvalid, hstage]
      exact h m hm

theorem State.freeOwned_frames (n : Tag) (f : FrameId) : (s.freeOwned n).coverage.frames[f] =
    if (s.record n).mapFrame = some f ∧ s.coverage.frames[f].state = .retained ∧
      s.coverage.frames[f].owner = some n then ⟨.free, none, none⟩ else s.coverage.frames[f] := by
  simp only [← State.ownedFrame_eq_some_iff]
  unfold State.freeOwned
  cases howned : s.ownedFrame n with
  | none => rfl
  | some g =>
    refine (State.frames_setFrame s g f _).trans ?_
    by_cases hf : f = g
    · subst hf
      rw [if_pos rfl, if_pos rfl]
      rfl
    · rw [if_neg hf, if_neg fun h => hf (Option.some.inj h).symm]

/-! ### COOL_TO_EXIT (R152) -/

/-- A board that leaves the line at the exit, ahead of the levels and the line empty report. -/
def State.passed (n : Tag) (s : State) : State :=
  (((s.freeOwned n).modifyRecord n BoardRecord.release).append (.boardPassed n (s.record n).serial)).divert

theorem State.doneCoolToExit_eq (n : Tag) : s.doneCoolToExit n = (s.passed n).driveGate.driveLoader.reportEmpty := rfl

theorem State.passed_record (n m : Tag) : (s.passed n).record m =
    if headTag s.tracker.cool = some m then
      { (if m = n then (s.record n).release else s.record m) with
        verdict := if (if m = n then (s.record n).release else s.record m).reasons = 0 then .pass else .hold }
    else if m = n then (s.record n).release else s.record m := by
  have hcool : (((s.freeOwned n).modifyRecord n BoardRecord.release).append
      (.boardPassed n (s.record n).serial)).tracker.cool = s.tracker.cool := by simp
  have hrecord (k : Tag) : (s.freeOwned n).record k = s.record k := State.record_of_boards (by simp) k
  rw [State.passed, State.divert_record, hcool]
  simp only [State.append_record, State.record_modifyRecord, hrecord]

/-- Settles O28: the board that leaves, the new head's decision, and the levels behind them. -/
theorem coolToExitCompletes : Obligations.CoolToExitCompletes := by
  intro s d slot p l hidle hroute hlist hother
  have hdone := State.takeTransferDone_inFlight (s := s) (r := .coolToExit) hroute hlist
  generalize hs : s.endTransfer .coolToExit = s' at hdone
  have hcool : s'.tracker.cool = l := by
    rw [← hs]
    exact congrArg List.tail hlist
  have hrecord (m : Tag) : s'.record m = s.record m := hs ▸ State.endTransfer_record _ m
  have hcoverage : s'.coverage = s.coverage := hs ▸ rfl
  obtain ⟨u, hu⟩ : ∃ u, u = (s'.passed p.tag).driveGate.driveLoader := ⟨_, rfl⟩
  have hurecord (m : Tag) : u.record m = (s'.passed p.tag).record m := by
    rw [hu, State.driveLoader_record, State.driveGate_record]
  have htracker : u.tracker = { s'.tracker with boards := u.tracker.boards, loaderReady := u.tracker.loaderReady } := by
    simp only [hu, State.driveLoader_tracker, State.driveGate_keeps, State.passed]
    rw [State.divert_tracker]
    simp
  have hhead (m : Tag) : headTag l = some m ↔ ∃ q k, l = q :: k ∧ m = q.tag := by
    cases l <;> simp [headTag, eq_comm]
  have hleft : headTag l ≠ some p.tag := fun h => by
    obtain ⟨q, k, rfl, htag⟩ := (hhead _).mp h
    exact hother q List.mem_cons_self htag.symm
  have hboard : u.record p.tag = { s.record p.tag with valid := false } := by
    rw [hurecord, State.passed_record, hcool, if_neg hleft, if_pos rfl, hrecord]
    rfl
  refine ⟨u.reportEmpty, u, ?_, State.reportEmpty_endsDrain.congr (State.lineEmpty_beside ?_ fun m hm => ?_), ?_, ?_,
    hboard, fun q k hl => ?_, fun m hm hnot => ?_, fun f => ?_, ?_, ?_, ?_, ?_, ?_, ?_⟩
  · refine (exec_transferDone hidle (r := .coolToExit) rfl).trans (congrArg _ (hdone.trans ?_))
    rw [hu]
    exact State.doneCoolToExit_eq p.tag
  · rw [hboard]
    exact fun h => absurd h Bool.false_ne_true
  · rw [hurecord, State.passed_record, if_neg hm, hrecord]
    split <;> exact ⟨rfl, rfl⟩
  · rw [htracker, ← hs]
    rfl
  · rw [htracker]
    exact hcool
  · have hq : headTag s'.tracker.cool = some q.tag := by rw [hcool, hl, headTag_cons]
    have hne : q.tag ≠ p.tag := hother q (hl ▸ List.mem_cons_self)
    rw [hurecord, State.passed_record, if_pos hq, if_neg hne, hrecord]
  · rw [hurecord, State.passed_record, hcool, if_neg hm, hrecord, if_neg]
    intro h
    obtain ⟨q, k, hl, htag⟩ := (hhead m).mp h
    exact hnot q k hl htag
  · have hframes : u.coverage = (s'.freeOwned p.tag).coverage := by simp [hu, State.passed]
    rw [hframes, State.freeOwned_frames, hrecord, hcoverage]
  · have hexchange : u.exchange = (((s'.freeOwned p.tag).modifyRecord p.tag BoardRecord.release).append
        (.boardPassed p.tag (s'.record p.tag).serial)).exchange := by
      simp [hu, State.passed]
    rw [hexchange, hrecord]
    exact State.append_exchange_congr (by simp [← hs]) (by simp [← hs]) _
  · have hcure : u.cure = (s'.passed p.tag).driveGate.cure := by rw [hu]; simp
    rw [hcure, State.driveGate_reexamined, hu, State.driveLoader_gateWanted]
    simp [State.passed, ← hs]
  · rw [hu]
    exact State.driveLoader_loaderReady
  · simp [hu, State.passed, ← hs]
  · simp [hu, State.passed, ← hs]
  · simp [hu, State.passed, ← hs]

/-! ### A board that becomes HELD (R11, R158) -/

theorem mem_joinOrder (later : Tag → Bool) (n : Tag) (l : List Tag) : n ∈ joinOrder later n l := by
  induction l with
  | nil => exact List.mem_singleton_self n
  | cons x l ih =>
    rw [joinOrder]
    split
    · exact List.mem_cons_self
    · exact List.mem_cons_of_mem x ih

/-- A joining tag stands ahead of the trailing ones that it precedes, and behind every other. -/
theorem joinOrder_split {later : Tag → Bool} {before after : List Tag} (n : Tag)
    (hafter : ∀ m ∈ after, later m = true) (hbefore : ∀ m, before.getLast? = some m → later m = false) :
    joinOrder later n (before ++ after) = before ++ n :: after := by
  induction before with
  | nil =>
    cases after with
    | nil => rfl
    | cons x l => exact if_pos (List.all_eq_true.mpr hafter)
  | cons y l ih =>
    obtain ⟨last, hlast⟩ : ∃ last, (y :: l).getLast? = some last := ⟨_, List.getLast?_eq_some_getLast (by simp)⟩
    have hnot : ¬(y :: (l ++ after)).all later = true := fun hall => by
      have hmem : last ∈ y :: (l ++ after) := List.mem_append_left after (List.mem_of_getLast? hlast)
      exact Bool.false_ne_true ((hbefore last hlast).symm.trans (List.all_eq_true.mp hall last hmem))
    have htail : joinOrder later n (l ++ after) = l ++ n :: after := ih fun m hm => hbefore m (by
      rw [List.getLast?_cons, hm]
      rfl)
    rw [List.cons_append, joinOrder, if_neg hnot, htail, List.cons_append]

/-- The board is HELD at a slot, which is ASSIGNED to it, and joins the hold order. -/
def State.heldAt (n : Tag) (m : SlotId) (s : State) : State :=
  ((s.modifyRecord n (BoardRecord.hold (.slot m) s.lineTime)).setSlot m (.assigned n)).joinHolds n

@[simp] theorem State.heldAt_keeps (n : Tag) (m : SlotId) :
    (s.heldAt n m).lineTime = s.lineTime ∧ (s.heldAt n m).tables = s.tables ∧ (s.heldAt n m).verifier = s.verifier ∧
      (s.heldAt n m).sequencer = s.sequencer ∧ (s.heldAt n m).coverage = s.coverage ∧
      (s.heldAt n m).cure = s.cure ∧ (s.heldAt n m).line = s.line := by
  simp [State.heldAt]

theorem State.heldAt_tracker (n : Tag) (m : SlotId) :
    (s.heldAt n m).tracker = (s.modifyRecord n (BoardRecord.hold (.slot m) s.lineTime)).tracker := by
  simp [State.heldAt]

theorem State.heldAt_record (n k : Tag) (m : SlotId) : (s.heldAt n m).record k =
    if k = n then (s.record n).hold (.slot m) s.lineTime else s.record k :=
  (State.record_of_boards (by rw [State.heldAt_tracker]) k).trans (State.record_modifyRecord ..)

theorem State.heldAt_exchange (n : Tag) (m : SlotId) : (s.heldAt n m).exchange =
    (s.append (.slotState m (.assigned n) s.holds.slots[m] (some n))).exchange := by
  simp only [State.heldAt, State.joinHolds_keeps]
  rw [State.setSlot_exchange m (m := n) rfl]
  refine State.append_exchange_congr ?_ ?_ _ <;> rfl

theorem State.heldAt_slots (n : Tag) (m : SlotId) :
    (s.heldAt n m).holds.slots = s.holds.slots.set m (.assigned n) := by
  simp [State.heldAt, State.joinHolds, State.setSlot_holds]

theorem State.joinHolds_joins {u : State} {n : Tag} {time : Time} (hholds : u.holds.kept = s.holds.kept ∧
    u.holds.since = s.holds.since) (hown : (u.record n).heldTime = some time)
    (hother : ∀ m, m ≠ n → (u.record m).heldTime = (s.record m).heldTime) : s.joinsHolds (u.joinHolds n) n time := by
  obtain ⟨hkept, hsince⟩ := hholds
  refine ⟨hkept, fun before after hsplit hafter hbefore => ?_⟩
  have hlater (m : Tag) : ((u.record m).heldTime == (u.record n).heldTime && decide (n < m)) = true ↔
      (s.record m).heldTime = some time ∧ n < m := by
    rw [Bool.and_eq_true, beq_iff_eq, decide_eq_true_iff, hown]
    by_cases hm : m = n
    · subst hm
      simp
    · rw [hother m hm]
  have hjoined := joinOrder_split (later := fun m => (u.record m).heldTime == (u.record n).heldTime && decide (n < m))
    n (fun m hm => (hlater m).mpr (hafter m hm))
    fun m hm => Bool.eq_false_iff.mpr fun h => hbefore m hm ((hlater m).mp h)
  rw [State.joinHolds, hsince, hsplit]
  exact hjoined

theorem State.heldAt_joins (n : Tag) (m : SlotId) : s.joinsHolds (s.heldAt n m) n s.lineTime := by
  have hrecord (k : Tag) : ((s.modifyRecord n (BoardRecord.hold (.slot m) s.lineTime)).setSlot m
      (.assigned n)).record k = if k = n then (s.record n).hold (.slot m) s.lineTime else s.record k :=
    (State.record_of_boards (by simp) k).trans (State.record_modifyRecord ..)
  refine State.joinHolds_joins ⟨?_, ?_⟩ ?_ fun k hk => ?_
  · rw [State.setSlot_holds]
    rfl
  · rw [State.setSlot_holds]
    rfl
  · rw [hrecord, if_pos rfl]
    rfl
  · rw [hrecord, if_neg hk]

theorem State.mem_heldAt (n : Tag) (m : SlotId) : n ∈ (s.heldAt n m).holdOrder :=
  List.mem_append_right _ (mem_joinOrder ..)

theorem State.joinsHolds.congr {t u s' : State} {n : Tag} {time : Time} (h : s.joinsHolds t n time)
    (hholds : s'.holds = s.holds) (hrecord : ∀ m, s'.record m = s.record m) (ht : u.holds = t.holds) :
    s'.joinsHolds u n time := by
  obtain ⟨hkept, horder⟩ := h
  refine ⟨by rw [ht, hkept, hholds], fun before after hsplit hafter hbefore => ?_⟩
  rw [ht]
  refine horder before after (hholds ▸ hsplit) (fun m hm => ?_) fun m hm => ?_
  · simpa only [hrecord] using hafter m hm
  · simpa only [hrecord] using hbefore m hm

theorem State.retainReserved_frames (n : Tag) (f : FrameId) : (s.retainReserved n).coverage.frames[f] =
    if (s.record n).mapFrame = some f ∧ s.coverage.frames[f].state = .reserved then
      { s.coverage.frames[f] with state := .retained, owner := some n } else s.coverage.frames[f] := by
  unfold State.retainReserved
  cases hframe : (s.record n).mapFrame with
  | none => simp
  | some g =>
    by_cases hf : f = g
    · subst hf
      by_cases hstate : s.coverage.frames[f].state = .reserved
      · dsimp only
        rw [if_pos hstate, if_pos ⟨rfl, hstate⟩]
        exact (State.frames_setFrame ..).trans (if_pos rfl)
      · dsimp only
        rw [if_neg hstate, if_neg fun h => hstate h.2]
    · have hother : (some g = some f) = False := eq_false fun h => hf (Option.some.inj h).symm
      simp only [hother, false_and, if_false]
      split
      · exact (State.frames_setFrame ..).trans (if_neg hf)
      · rfl

/-- MASK_TO_LANE done, ahead of the line empty report (R78, R79). -/
def State.laned (n : Tag) (m : SlotId) (s : State) : State :=
  let held := ((s.heldAt n m).retainReserved n).append (.boardHeld n (.slot m) (s.record n).reasons)
  ({ held with verifier := { held.verifier with outcome := .none } }).driveLoader

theorem State.doneMaskToLane_eq (n : Tag) (m : SlotId) : s.doneMaskToLane n m = (s.laned n m).reportEmpty := rfl

/-- COOL_TO_SPUR done, ahead of the line empty report (R154). -/
def State.spurred (n : Tag) (m : SlotId) (s : State) : State :=
  ((s.heldAt n m).append (.boardHeld n (.slot m) (s.record n).reasons)).divert.driveGate

theorem State.doneCoolToSpur_eq (n : Tag) (m : SlotId) : s.doneCoolToSpur n m = (s.spurred n m).reportEmpty := rfl

theorem slotOfOperand_lane {n : SlotId} {slot : Nat} (h : n.val = 6 + slot) : slotOfOperand .maskToLane slot = n :=
  Fin.ext (by rw [slotOfOperand, ← h]; exact Nat.mod_eq_of_lt n.isLt)

theorem slotOfOperand_spur {n : SlotId} {slot : Nat} (h : n.val = slot) : slotOfOperand .coolToSpur slot = n := by
  subst h
  exact Fin.ext (Nat.mod_eq_of_lt n.isLt)

theorem State.laned_tracker (n : Tag) (m : SlotId) : (s.laned n m).tracker =
    { s.tracker with boards := (s.laned n m).tracker.boards, loaderReady := (s.laned n m).tracker.loaderReady } := by
  simp only [State.laned, State.driveLoader_tracker, State.append_keeps, State.retainReserved_keeps,
    State.heldAt_tracker]
  rfl

theorem State.spurred_tracker (n : Tag) (m : SlotId) :
    (s.spurred n m).tracker = { s.tracker with boards := (s.spurred n m).tracker.boards } := by
  simp only [State.spurred, State.driveGate_keeps]
  rw [State.divert_tracker]
  simp only [State.append_keeps, State.heldAt_tracker]
  rfl

theorem State.laned_record (n k : Tag) (m : SlotId) : (s.laned n m).record k = (s.heldAt n m).record k :=
  State.record_of_boards (by simp [State.laned]) k

theorem State.spurred_record (n k : Tag) (m : SlotId) : (s.spurred n m).record k =
    if headTag s.tracker.cool = some k then { (s.heldAt n m).record k with
      verdict := if ((s.heldAt n m).record k).reasons = 0 then .pass else .hold } else (s.heldAt n m).record k := by
  have hcool : ((s.heldAt n m).append (.boardHeld n (.slot m) (s.record n).reasons)).tracker.cool =
      s.tracker.cool := by
    simp only [State.append_keeps, State.heldAt_tracker]
    rfl
  rw [State.spurred, State.driveGate_record, State.divert_record, hcool]
  simp only [State.append_record]

@[simp] theorem State.laned_keeps (n : Tag) (m : SlotId) :
    (s.laned n m).holds = (s.heldAt n m).holds ∧ (s.laned n m).verifier = { s.verifier with outcome := .none } ∧
      (s.laned n m).cure = s.cure ∧ (s.laned n m).sequencer = s.sequencer ∧ (s.laned n m).line = s.line ∧
      (s.laned n m).tables = s.tables ∧ (s.laned n m).coverage = ((s.heldAt n m).retainReserved n).coverage := by
  simp [State.laned]

@[simp] theorem State.spurred_keeps (n : Tag) (m : SlotId) :
    (s.spurred n m).holds = (s.heldAt n m).holds ∧ (s.spurred n m).verifier = s.verifier ∧
      (s.spurred n m).sequencer = s.sequencer ∧ (s.spurred n m).line = s.line ∧
      (s.spurred n m).tables = s.tables ∧ (s.spurred n m).coverage = s.coverage := by
  simp [State.spurred]

theorem State.laned_exchange (n : Tag) (m : SlotId) : (s.laned n m).exchange =
    ((s.append (.slotState m (.assigned n) s.holds.slots[m] (some n))).append
      (.boardHeld n (.slot m) (s.record n).reasons)).exchange := by
  simp only [State.laned, State.driveLoader_keeps]
  exact State.append_exchange_congr (by rw [← State.heldAt_exchange]; simp) (by simp) _

theorem State.spurred_exchange (n : Tag) (m : SlotId) : (s.spurred n m).exchange =
    ((s.append (.slotState m (.assigned n) s.holds.slots[m] (some n))).append
      (.boardHeld n (.slot m) (s.record n).reasons)).exchange := by
  simp only [State.spurred, State.driveGate_keeps, State.divert_keeps]
  exact State.append_exchange_congr (State.heldAt_exchange n m) (by simp) _

theorem State.spurred_cure (n : Tag) (m : SlotId) :
    (s.spurred n m).cure = { s.cure with gate := (s.spurred n m).gateWanted } := by
  rw [State.spurred, State.driveGate_reexamined]
  simp

/-- What both routes into a hold slot leave of the slot, the hold order and the entries (R11, R157, R158). -/
structure State.becameHeld (s u : State) (n : Tag) (m : SlotId) : Prop where
  slots : u.holds.slots = s.holds.slots.set m (.assigned n)
  listed : n ∈ u.holdOrder
  joins : s.joinsHolds u n s.lineTime
  entries : u.exchange = ((s.append (.slotState m (.assigned n) s.holds.slots[m] (some n))).append
    (.boardHeld n (.slot m) (s.record n).reasons)).exchange

theorem State.becameHeld_of_heldAt {u : State} {n : Tag} {m : SlotId} (hholds : u.holds = (s.heldAt n m).holds)
    (hexchange : u.exchange = ((s.append (.slotState m (.assigned n) s.holds.slots[m] (some n))).append
      (.boardHeld n (.slot m) (s.record n).reasons)).exchange) : s.becameHeld u n m where
  slots := by rw [hholds, State.heldAt_slots]
  listed := by
    rw [State.holdOrder, hholds]
    exact State.mem_heldAt n m
  joins := (State.heldAt_joins n m).congr rfl (fun _ => rfl) hholds
  entries := hexchange

/-- The end of the transfer itself touches none of it. -/
theorem State.becameHeld_of_endTransfer {r : Route} {u : State} {n : Tag} {m : SlotId}
    (h : (s.endTransfer r).becameHeld u n m) : s.becameHeld u n m where
  slots := h.slots
  listed := h.listed
  joins := h.joins.congr rfl (fun k => (State.endTransfer_record r k).symm) rfl
  entries := by
    rw [h.entries, State.endTransfer_record]
    refine State.append_exchange_congr (State.append_exchange_congr ?_ ?_ _) (by simp) _ <;> rfl

/-- Routes and lists do not depend on the records and the loader-ready level. -/
theorem Tracker.lists_of_boards {k m : Tracker} {boards : Vector BoardRecord 32} {level : Bool}
    (h : m = { k with boards := boards, loaderReady := level }) (r : Route) :
    m.route r = k.route r ∧ m.source r = k.source r := by
  subst h
  cases r <;> exact ⟨rfl, rfl⟩

section
variable {d : Time} {slot : Nat} {p : Place} {l : List Place} {n : SlotId}

theorem State.endTransfer_source (r : Route) (hlist : s.tracker.source r = p :: l) :
    (s.endTransfer r).tracker.source r = l ∧ (s.endTransfer r).tracker.route r = .idle := by
  simp [State.endTransfer, hlist]

theorem State.laneTransfer_completes (hidle : s.idlePort .station)
    (hroute : s.tracker.route .maskToLane = .inFlight d slot)
    (hlist : s.tracker.source .maskToLane = p :: l) (hn : n.val = 6 + slot) :
    exec (.transferDone 2) s = .next ((s.endTransfer .maskToLane).laned p.tag n).reportEmpty := by
  refine (exec_transferDone hidle (r := .maskToLane) rfl).trans (congrArg _ ?_)
  rw [State.takeTransferDone_inFlight hroute hlist, State.completeRoute, slotOfOperand_lane hn,
    State.doneMaskToLane_eq]

theorem State.spurTransfer_completes (hidle : s.idlePort .station)
    (hroute : s.tracker.route .coolToSpur = .inFlight d slot)
    (hlist : s.tracker.source .coolToSpur = p :: l) (hn : n.val = slot) :
    exec (.transferDone 6) s = .next ((s.endTransfer .coolToSpur).spurred p.tag n).reportEmpty := by
  refine (exec_transferDone hidle (r := .coolToSpur) rfl).trans (congrArg _ ?_)
  rw [State.takeTransferDone_inFlight hroute hlist, State.completeRoute, slotOfOperand_spur hn,
    State.doneCoolToSpur_eq]

theorem State.laneTransfer_record (k : Tag) : ((s.endTransfer .maskToLane).laned p.tag n).record k =
    if k = p.tag then (s.record p.tag).hold (.slot n) s.lineTime else s.record k := by
  rw [State.laned_record, State.heldAt_record, State.endTransfer_record, State.endTransfer_record]
  rfl

theorem State.spurTransfer_record (hlist : s.tracker.source .coolToSpur = p :: l) (hother : ∀ q ∈ l, q.tag ≠ p.tag)
    (k : Tag) : ((s.endTransfer .coolToSpur).spurred p.tag n).record k =
      if k = p.tag then (s.record p.tag).hold (.slot n) s.lineTime
      else if headTag l = some k then
        { s.record k with verdict := if (s.record k).reasons = 0 then .pass else .hold }
      else s.record k := by
  have hcool : (s.endTransfer .coolToSpur).tracker.cool = l := (State.endTransfer_source .coolToSpur hlist).1
  have hleft : headTag l ≠ some p.tag := by
    cases l with
    | nil => exact fun h => by cases h
    | cons q k => exact fun h => hother q List.mem_cons_self (Option.some.inj h)
  have htime : (s.endTransfer .coolToSpur).lineTime = s.lineTime := rfl
  rw [State.spurred_record, hcool, State.heldAt_record, State.endTransfer_record, State.endTransfer_record, htime]
  by_cases hk : k = p.tag
  · subst hk
    rw [if_neg hleft, if_pos rfl, if_pos rfl]
  · rw [if_neg hk, if_neg hk]

end

/-- Settles O25: the board becomes HELD alike on both routes; the lane adds the frame, the mask outcome and the
loader-ready level, the spur the new head's decision and the gate. -/
theorem holdTransfersComplete : Obligations.HoldTransfersComplete := by
  intro s r code n d slot p l hroutes hidle hroute hlist hother
  obtain ⟨hsource, hfree⟩ := State.endTransfer_source r hlist
  obtain ⟨rfl, rfl, hn⟩ | ⟨rfl, rfl, hn, -⟩ := hroutes
  case inl =>
    have hboard (k : Tag) := State.laneTransfer_record (s := s) (p := p) (n := n) k
    have hheld := State.becameHeld_of_endTransfer (State.becameHeld_of_heldAt (s := s.endTransfer .maskToLane)
      (u := (s.endTransfer .maskToLane).laned p.tag n) (by simp) (State.laned_exchange p.tag n))
    obtain ⟨hroutes, hlists⟩ := Tracker.lists_of_boards (State.laned_tracker (s := s.endTransfer .maskToLane) p.tag n)
      .maskToLane
    refine ⟨_, (s.endTransfer .maskToLane).laned p.tag n, State.laneTransfer_completes hidle hroute hlist hn,
      State.reportEmpty_endsDrain.congr (State.lineEmpty_beside ?_ fun m hm => ?_), ?_, ?_, ?_, fun m hm => ?_,
      hheld.slots, hheld.listed, hheld.joins, hheld.entries, fun f => ?_, by simp, State.driveLoader_loaderReady, by
          simp,
      by simp, by simp, by simp⟩
    · rw [hboard, if_pos rfl]
      exact fun _ => rfl
    · rw [hboard, if_neg hm]
      exact ⟨rfl, rfl⟩
    · rw [hroutes, hfree]
    · rw [hlists, hsource]
    · rw [hboard, if_pos rfl]
      rfl
    · rw [hboard, if_neg hm, if_neg]
      exact fun h => Route.noConfusion h.1
    · simp only [State.laned_keeps, State.retainReserved_frames, State.heldAt_record, State.endTransfer_record, if_true,
        State.heldAt_keeps, true_and]
      rfl
  case inr =>
    have hboard (k : Tag) := State.spurTransfer_record (n := n) hlist hother k
    have hheld := State.becameHeld_of_endTransfer (State.becameHeld_of_heldAt (s := s.endTransfer .coolToSpur)
      (u := (s.endTransfer .coolToSpur).spurred p.tag n) (by simp) (State.spurred_exchange p.tag n))
    obtain ⟨hroutes, hlists⟩ :=
      Tracker.lists_of_boards (State.spurred_tracker (s := s.endTransfer .coolToSpur) p.tag n) .coolToSpur
    refine ⟨_, (s.endTransfer .coolToSpur).spurred p.tag n, State.spurTransfer_completes hidle hroute hlist hn,
      State.reportEmpty_endsDrain.congr (State.lineEmpty_beside ?_ fun m hm => ?_), ?_, ?_, ?_, fun m hm => ?_,
      hheld.slots, hheld.listed, hheld.joins, hheld.entries, fun f => by simp, by simp, ?_, State.spurred_cure p.tag n,
      by simp, by simp, by simp⟩
    · rw [hboard, if_pos rfl]
      exact fun _ => rfl
    · rw [hboard, if_neg hm]
      split <;> exact ⟨rfl, rfl⟩
    · rw [hroutes, hfree]
    · rw [hlists, hsource]
    · rw [hboard, if_pos rfl]
      rfl
    · rw [hboard, if_neg hm]
      simp [headTag]
    · rw [State.spurred_tracker]
      rfl

/-! ### The frame of a spray start (R110-R112) -/

theorem State.append_cell (hcanonical : s.canonical) (e : Activity) (f : FrameId) {column row : Nat} :
    (s.append e).exchange.mem.cell f (column, row) = s.exchange.mem.cell f (column, row) := by
  have hindex := s.exchange.writeIndex.isLt
  have hread {a : Nat} (ha : 0x14000 ≤ a) : (s.append e).exchange.mem.read a = s.exchange.mem.read a := by
    rw [State.append_read hcanonical, if_neg]
    simp only [entryAt]
    omega
  simp only [Memory.cell, cellAt]
  rw [hread (by omega), hread (by omega)]

theorem State.takeFrame_spec (f : FrameId) (n : Tag) :
    (s.takeFrame f n).coverage.frames = s.coverage.frames.set f ⟨.active, some n, some (s.record n).pass⟩ ∧
      (∀ m, (s.takeFrame f n).record m =
        if m = n then { s.record n with mapFrame := some f } else s.record m) ∧
      (s.takeFrame f n).exchange.writeIndex = s.exchange.writeIndex ∧
      ∀ (g : FrameId) (column row : Nat), column < 64 → row < 48 →
        (s.takeFrame f n).exchange.mem.cell g (column, row) =
          if g = f then 0 else s.exchange.mem.cell g (column, row) := by
  refine ⟨rfl, fun m => State.record_modifyRecord .., rfl, fun g column row hcolumn hrow => ?_⟩
  refine (Memory.cell_clearWhere s.exchange.mem g f _ hcolumn hrow).trans ?_
  simp [eq_comm]

theorem State.allocate_owned {n : Tag} {f : FrameId} (h : (s.record n).mapFrame = some f) :
    s.allocate n = s.setFrame f { s.coverage.frames[f] with state := .active } := by
  simp only [State.allocate, h]

theorem State.allocate_free {n : Tag} {f : FrameId} (h : (s.record n).mapFrame = none) (hfree : s.freeFrame = some f) :
    s.allocate n = s.takeFrame f n := by
  simp only [State.allocate, h, hfree]

theorem State.allocate_reclaimed {n o : Tag} {f : FrameId} (h : (s.record n).mapFrame = none)
    (hfree : s.freeFrame = none) (hreclaimed : s.reclaimed = some (o, f)) :
    s.allocate n = ((s.modifyRecord o fun b => { b with mapFrame := none }).takeFrame f n).append
      (.mapReclaimed f o .sprayStart) := by
  simp only [State.allocate, h, hfree, hreclaimed]

theorem State.freeFrame_of_lowest {f : FrameId} (hfree : s.coverage.frames[f].state = .free)
    (hlower : ∀ g < f, s.coverage.frames[g].state ≠ .free) : s.freeFrame = some f :=
  find?_lowest (List.pairwise_lt_finRange 8) (List.mem_finRange f) (by simpa using hfree)
    fun g hg _ => by simpa using hlower g hg

theorem State.freeFrame_eq_none_iff : s.freeFrame = none ↔ ∀ f : FrameId, s.coverage.frames[f].state ≠ .free := by
  simp [State.freeFrame, allFrames]

theorem State.retainedFrame_eq_some {n : Tag} {f : FrameId} (hframe : (s.record n).mapFrame = some f)
    (hstate : s.coverage.frames[f].state = .retained) : s.retainedFrame n = some f := by
  simp only [State.retainedFrame, hframe]
  exact if_pos (by simpa using hstate)

theorem State.retainedFrame_eq_none {n : Tag}
    (h : ∀ f, (s.record n).mapFrame = some f → s.coverage.frames[f].state ≠ .retained) : s.retainedFrame n = none := by
  cases hframe : (s.record n).mapFrame with
  | none => simp only [State.retainedFrame, hframe]
  | some f =>
    simp only [State.retainedFrame, hframe]
    exact if_neg (by simpa using h f hframe)

/-- The first board of the reclaim order that owns a RETAINED frame gives it up. -/
theorem State.reclaimed_of_first {before after : List Tag} {o : Tag} {f : FrameId}
    (horder : s.reclaimOrder = before ++ o :: after) (hbefore : ∀ b ∈ before, s.retainedFrame b = none)
    (hframe : s.retainedFrame o = some f) : s.reclaimed = some (o, f) := by
  have hnone : before.findSome? (fun b => (s.retainedFrame b).map fun g => (b, g)) = none :=
    List.findSome?_eq_none_iff.mpr fun b hb => by rw [hbefore b hb]; rfl
  rw [State.reclaimed, horder, List.findSome?_append, hnone, List.findSome?_cons, hframe]
  rfl

/-- Settles O27: the record, the frame table and the reclaim order decide. -/
theorem sprayStartAllocatesAFrame : Obligations.SprayStartAllocatesAFrame := by
  refine ⟨fun s => rfl, fun s n hcanonical => ⟨fun f hframe => State.allocate_owned hframe,
    fun hnone f hfree hlower => ?free, fun hnone hfull before after o f horder hbefore hframe hstate => ?reclaimed⟩⟩
  case free =>
    intro t
    have ht : t = _ := State.allocate_free hnone (State.freeFrame_of_lowest hfree hlower)
    obtain ⟨hframes, hrecord, hindex, hcell⟩ := State.takeFrame_spec (s := s) f n
    rw [ht]
    exact ⟨hframes, (hrecord n).trans (if_pos rfl), fun m hm => (hrecord m).trans (if_neg hm),
      fun column row hcolumn hrow => (hcell f column row hcolumn hrow).trans (if_pos rfl),
      fun g hg column row hcolumn hrow => (hcell g column row hcolumn hrow).trans (if_neg hg), hindex⟩
  case reclaimed =>
    intro t
    have hreclaimed := State.reclaimed_of_first horder
      (fun b hb => State.retainedFrame_eq_none (hbefore b hb)) (State.retainedFrame_eq_some hframe hstate)
    have ht : t = _ := State.allocate_reclaimed hnone (State.freeFrame_eq_none_iff.mpr hfull) hreclaimed
    obtain ⟨u, hu⟩ : ∃ u, u = s.modifyRecord o fun b => { b with mapFrame := none } := ⟨_, rfl⟩
    rw [← hu] at ht
    obtain ⟨hframes, hrecord, hindex, hcell⟩ := State.takeFrame_spec (s := u) f n
    have hno : n ≠ o := by
      rintro rfl
      rw [hnone] at hframe
      cases hframe
    have hown : u.record n = s.record n := hu ▸ State.modifyRecord_other hno _
    have hgone : (u.record o).mapFrame = none := by rw [hu, State.modifyRecord_same]
    have hcanonicalTaken : (u.takeFrame f n).canonical := Memory.wf_clearWhere (hu ▸ hcanonical) _
    have hwrite : (u.takeFrame f n).exchange.writeIndex = s.exchange.writeIndex := by rw [hindex, hu]; rfl
    have hread : (u.takeFrame f n).readIndex = s.readIndex := by
      refine (Memory.read_clearWhere_outside u.exchange.mem f _ (.inl (by unfold readIndexAt; omega))).trans ?_
      rw [hu]
      rfl
    have hnotfull (hroom : s.exchange.writeIndex + 1 ≠ s.readIndex) : (u.takeFrame f n).listFull = false := by
      refine Bool.eq_false_iff.mpr fun hfull => hroom ?_
      rw [← hwrite, ← hread]
      exact State.listFull_iff.mp hfull
    rw [ht]
    refine ⟨?_, ?_, fun hother => ?_, fun column row hcolumn hrow => ?_, fun hroom => ⟨?_, ?_⟩⟩
    · simp only [State.append_keeps, hframes, hown]
      rw [hu]
      rfl
    · rw [State.append_record, hrecord, if_pos rfl]
    · rw [State.append_record, hrecord, if_neg hother, hgone]
    · rw [State.append_cell hcanonicalTaken, hcell f column row hcolumn hrow, if_pos rfl]
    · rw [State.append_written (hnotfull hroom)]
      exact congrArg (· + 1) hwrite
    · have hbytes := State.append_bytes hcanonicalTaken (hnotfull hroom) (.mapReclaimed f o .sprayStart)
      rw [hwrite] at hbytes
      exact hbytes.trans (by rw [hu]; rfl)

end Sys2Proof.Machine
end

section
/-! PROOFS. The spray cell (chapter 5): the end of a path, a fetched segment, the segment's answers, aborts and the
guard, and the pressure monitors. -/

namespace Sys2Proof.Machine

variable {s : State}

/-! ### The end of a path (R104, R126) -/

theorem BoardRecord.evaluated_eq (b : BoardRecord) (e : Evaluation) : b.evaluated e = { b with
    thinCells := e.thin
    thickCells := e.thick
    firstFailing := e.first
    reasons := b.reasons ||| (if 0 < e.thin then 4 else 0) ||| (if 0 < e.thick then 8 else 0) } := by
  have hthin : Reason.filmThin.mask = 4 := rfl
  have hthick : Reason.filmThick.mask = 8 := rfl
  simp only [BoardRecord.evaluated, BoardRecord.addReasonIf, BoardRecord.addReason, decide_eq_true_eq, hthin, hthick]
  by_cases h : 0 < e.thin <;> by_cases k : 0 < e.thick <;> simp [h, k]

theorem State.pathEnd_record (n m : Tag) (ended : PathEnd) : (s.pathEnd n ended).record m =
    if m = n then { (s.record n).evaluated (s.evaluation n) with sprayEnd := some s.lineTime } else s.record m :=
  (State.record_of_boards (s := s.modifyRecord n fun b => { b.evaluated (s.evaluation n) with
    sprayEnd := some s.lineTime }) (by simp [State.pathEnd]) m).trans (State.record_modifyRecord ..)

theorem Vector.getElem_set_fin {α : Type} {k : Nat} (v : Vector α k) (i j : Fin k) (a : α) :
    (v.set i a)[j] = if j = i then a else v[j] := by
  by_cases h : j = i
  · subst h
    simp
  · have hne : (i : Nat) ≠ j := fun hij => h (Fin.ext hij.symm)
    simp [h, Vector.getElem_set_ne _ _ hne]

/-- The end of a path ahead of the cell's change: the record, the flash-off items, PATH_DONE and the stop cause. -/
def State.pathDone (n : Tag) (ended : PathEnd) (s : State) : State :=
  let s1 := s.modifyRecord n fun b => { b.evaluated (s.evaluation n) with sprayEnd := some s.lineTime }
  let s2 := { s1 with
    tracker := { s1.tracker with
      flash := s1.tracker.flash.set n (some (flashItems s.lineTime (s.boardCoating n))) } }
  (s2.append (.pathDone n (match (s.record n).lastSegment with | none => 0 | some i => i + 1) ended
    (s.evaluation n).thin (s.evaluation n).thick)).mapSequencer fun q =>
      { q with stopCause := none, stopApplicator := none }

theorem State.pathEnd_eq (n : Tag) (ended : PathEnd) :
    s.pathEnd n ended = (s.pathDone n ended).setCell .unloading none := rfl

theorem State.pathDone_tracker (n : Tag) (ended : PathEnd) : (s.pathDone n ended).tracker = { s.tracker with
    boards := (s.pathDone n ended).tracker.boards
    flash := s.tracker.flash.set n (some (flashItems s.lineTime (s.boardCoating n))) } := by
  simp only [State.pathDone, State.mapSequencer_keeps, State.append_keeps]
  rfl

theorem State.pathEnd_flash (n : Tag) (ended : PathEnd) : (s.pathEnd n ended).tracker.flash =
    s.tracker.flash.set n (some (flashItems s.lineTime (s.boardCoating n))) := by
  rw [State.pathEnd_eq]
  simp only [State.setCell_keeps]
  rw [State.pathDone_tracker]

theorem State.pathDone_exchange (n : Tag) (ended : PathEnd) : (s.pathDone n ended).exchange =
    (s.append (.pathDone n (match (s.record n).lastSegment with | none => 0 | some i => i + 1) ended
      (s.evaluation n).thin (s.evaluation n).thick)).exchange := by
  simp only [State.pathDone, State.mapSequencer_keeps]
  refine State.append_exchange_congr ?_ ?_ _ <;> rfl

/-- Settles O34: the record, the flash-off items, and the two entries. -/
theorem pathEndsLeaveTheCellUnloading : Obligations.PathEndsLeaveTheCellUnloading := by
  intro s n ended e c t
  refine ⟨State.pathEnd_sequencer s n ended, ?_, fun m hm => ⟨?_, ?_⟩, ?_, ?_, by simp [t], by simp [t], by simp [t],
    by simp [t], by simp [t], by simp [t]⟩
  · rw [State.pathEnd_record, if_pos rfl, BoardRecord.evaluated_eq]
  · rw [State.pathEnd_record, if_neg hm]
  · rw [State.pathEnd_flash, Vector.getElem_set_fin, if_neg hm]
  · rw [State.pathEnd_flash, Vector.getElem_set_fin, if_pos rfl]
    rfl
  · have hboard : (s.pathDone n ended).cellBoard = s.cellBoard := by
      rw [State.cellBoard, State.pathDone_tracker]
      rfl
    have hcell : (s.pathDone n ended).sequencer.cell = s.sequencer.cell := by simp [State.pathDone]
    have ht : t = (s.pathDone n ended).setCell .unloading none := State.pathEnd_eq n ended
    rw [ht, State.setCell_exchange, hboard, hcell]
    exact State.append_exchange_congr (State.pathDone_exchange n ended) (by simp [State.pathDone]) _

/-! ### A fetched segment (R86-R89) -/

/-- The kind of head that a segment is sent with (R89). -/
def State.headOf (s : State) (g : Segment) : ApplicatorKind :=
  (g.applicator.map fun a => (s.applicator a).kind).getD .needle

theorem State.sendSegment_eq {h : HeldSegment} (hsegment : s.sequencer.segment = some h) (n : Tag) :
    s.sendSegment n = { s with
      sequencer := { s.sequencer with
        phase := .sent
        deadline := some (s.lineTime + word (2 * h.record.planned + 500)) }
      ports := { s.ports with
        motion := s.ports.motion.issue (.segRun n s.sequencer.index h.record h.dryRun (s.headOf h.record)) } } := by
  unfold State.sendSegment
  split
  next hnone => cases hnone.symm.trans hsegment
  next g hheld =>
    obtain rfl : g = h := Option.some.inj (hheld.symm.trans hsegment)
    rw [State.headOf]
    cases g.record.applicator <;> rfl

theorem State.append_mapSequencer (e : Activity) (f : Sequencer → Sequencer) :
    (s.append e).mapSequencer f = (s.mapSequencer f).append e := by
  have hfull : (s.mapSequencer f).listFull = s.listFull := rfl
  unfold State.append
  rw [hfull]
  split <;> rfl

/-- A segment fetched and held for a record (R86). -/
def State.fetchedInto (n : Tag) (b : BoardRecord) (dry : Bool) (s : State) : State := { s with
  tracker := { s.tracker with boards := s.tracker.boards.set n { b with lastSegment := some s.sequencer.index } }
  sequencer := { s.sequencer with
    segment := some ⟨s.fetched (s.boardRecipe n).program s.sequencer.index, dry⟩ } }

theorem State.fetch_move {n : Tag}
    (h : (s.fetched (s.boardRecipe n).program s.sequencer.index).applicator = none) :
    s.fetch n = (s.fetchedInto n (s.record n) false).sendSegment n := by
  simp only [State.fetch, h]
  rfl

theorem State.fetch_clear {n : Tag} {a : ApplicatorId}
    (h : (s.fetched (s.boardRecipe n).program s.sequencer.index).applicator = some a)
    (hclear : (s.boardRecipe n).firstKeepOut (s.record n).maskResults
      (s.fetched (s.boardRecipe n).program s.sequencer.index) = none) :
    s.fetch n = (s.fetchedInto n (s.record n) false).pressureCheck n a := by
  simp only [State.fetch, h, hclear]
  rfl

/-- The record of a keep-out conflict (R87), and its entry. -/
def State.conflicted (n : Tag) (cell : Nat × Nat) (dry : Bool) (s : State) : State :=
  (s.fetchedInto n ((s.record n).conflict s.sequencer.index) dry).append
    (.segmentConflict n s.sequencer.index (s.boardRecipe n).conflictPolicy cell.1 cell.2)

theorem State.fetch_conflict {n : Tag} {a : ApplicatorId} {cell : Nat × Nat}
    (h : (s.fetched (s.boardRecipe n).program s.sequencer.index).applicator = some a)
    (hhit : (s.boardRecipe n).firstKeepOut (s.record n).maskResults
      (s.fetched (s.boardRecipe n).program s.sequencer.index) = some cell) :
    s.fetch n = match (s.boardRecipe n).conflictPolicy with
      | .dryRun => (s.conflicted n cell true).sendSegment n
      | .stopBoard => ((s.conflicted n cell false).mapSequencer fun q => { q with segment := none }).pathEnd n
          .stopBoard := by
  have hmarked : (((s.modifyRecord n fun b => { b with lastSegment := some s.sequencer.index }).mapSequencer fun q =>
      { q with segment := some ⟨s.fetched (s.boardRecipe n).program s.sequencer.index, false⟩ }).modifyRecord n
        (BoardRecord.conflict s.sequencer.index)) =
      s.fetchedInto n ((s.record n).conflict s.sequencer.index) false := by
    simp [State.modifyRecord, State.setRecord, State.mapSequencer, State.record, State.fetchedInto,
      BoardRecord.conflict, BoardRecord.addReason]
  have hdry : (s.fetchedInto n ((s.record n).conflict s.sequencer.index) false).mapSequencer (fun q =>
      { q with segment := some ⟨s.fetched (s.boardRecipe n).program s.sequencer.index, true⟩ }) =
        s.fetchedInto n ((s.record n).conflict s.sequencer.index) true := rfl
  simp only [State.fetch, h, hhit, hmarked, State.conflicted]
  cases (s.boardRecipe n).conflictPolicy with
  | dryRun =>
    dsimp only
    rw [State.append_mapSequencer, hdry]
  | stopBoard => rfl

theorem State.sendSegment_as {h : HeldSegment} {i : Nat} {now : Time} {ports : Ports} {head : ApplicatorKind}
    (hsegment : s.sequencer.segment = some h) (hindex : s.sequencer.index = i) (htime : s.lineTime = now)
    (hports : s.ports = ports) (hhead : s.headOf h.record = head) (n : Tag) : s.sendSegment n = { s with
      sequencer := { s.sequencer with phase := .sent, deadline := some (now + word (2 * h.record.planned + 500)) }
      ports := { ports with motion := ports.motion.issue (.segRun n i h.record h.dryRun head) } } := by
  subst hindex htime hports hhead
  exact State.sendSegment_eq hsegment n

theorem State.headOf_move {g : Segment} (h : g.applicator = none) : s.headOf g = .needle := by
  rw [State.headOf, h]
  rfl

theorem State.headOf_tool {g : Segment} {a : ApplicatorId} (h : g.applicator = some a) :
    s.headOf g = (s.applicator a).kind := by
  rw [State.headOf, h]
  rfl

theorem State.conflicted_keeps (n : Tag) (cell : Nat × Nat) (dry : Bool) :
    (s.conflicted n cell dry).sequencer = { s.sequencer with
        segment := some ⟨s.fetched (s.boardRecipe n).program s.sequencer.index, dry⟩ } ∧
      (s.conflicted n cell dry).lineTime = s.lineTime ∧ (s.conflicted n cell dry).ports = s.ports ∧
      (s.conflicted n cell dry).tables = s.tables := by
  simp only [State.conflicted, State.append_keeps]
  exact ⟨rfl, rfl, rfl, rfl⟩

theorem State.pressureCheck_sprays {n : Tag} {a : ApplicatorId} (h : s.sprays a) :
    s.pressureCheck n a = s.sendSegment n := if_pos ((State.pressureReady_iff a).mpr h)

theorem State.pressureCheck_waits {n : Tag} {a : ApplicatorId} (h : ¬s.sprays a) : s.pressureCheck n a =
    (s.mapSequencer fun q => { q with phase := .waiting }).setCell .interlocked none :=
  if_neg (mt (State.pressureReady_iff a).mp h)

theorem not_sprays {a : ApplicatorId} (hmode : (s.applicator a).mode = .interlock)
    (hband : s.sequencer.monitors[a].state ≠ .inBand) : ¬s.sprays a := by
  rintro (hwarn | hin)
  · exact MonitorMode.noConfusion (hmode.symm.trans hwarn)
  · exact hband hin

/-- Settles O33: the segment's kind, its first KEEP_OUT cell and the pressure check decide. -/
theorem fetchedSegmentsAreJudged : Obligations.FetchedSegmentsAreJudged := by
  intro s n r i g held sent
  refine ⟨fun hmove => ?move, fun a htool => ?_⟩
  case move =>
    have hsent := State.sendSegment_eq (s := s.fetchedInto n (s.record n) false) (h := ⟨g, false⟩) rfl n
    rw [State.headOf_move hmove] at hsent
    exact (State.fetch_move hmove).trans hsent
  intro hit
  refine ⟨fun hclear => ⟨fun hready => ?ready, fun hmode hband => ?waits⟩, fun before after cell hsplit hbefore hcell
      => ?_⟩
  case ready =>
    have hnone : r.firstKeepOut (s.record n).maskResults g = none := List.find?_eq_none.mpr fun c hc => by
      simpa [hit] using hclear c hc
    have hsent := State.sendSegment_eq (s := s.fetchedInto n (s.record n) false) (h := ⟨g, false⟩) rfl n
    rw [State.headOf_tool htool] at hsent
    have hsprays : (s.fetchedInto n (s.record n) false).sprays a := hready
    exact ((State.fetch_clear htool hnone).trans (State.pressureCheck_sprays hsprays)).trans hsent
  case waits =>
    intro u
    have hnone : r.firstKeepOut (s.record n).maskResults g = none := List.find?_eq_none.mpr fun c hc => by
      simpa [hit] using hclear c hc
    have hnot : ¬(s.fetchedInto n (s.record n) false).sprays a := not_sprays (s := s) hmode hband
    exact (State.fetch_clear htool hnone).trans (State.pressureCheck_waits hnot)
  intro marked
  have hfirst : r.firstKeepOut (s.record n).maskResults g = some cell := by
    have hskip : before.find? hit = none := List.find?_eq_none.mpr fun b hb => by simp [hbefore b hb]
    rw [Recipe.firstKeepOut, hsplit]
    exact (List.find?_append ..).trans (by rw [hskip, List.find?_cons_of_pos hcell]; rfl)
  have hfetch := State.fetch_conflict htool hfirst
  refine ⟨fun hpolicy => ?dry, fun hpolicy => ?stops⟩
  case dry =>
    have hdry : (s.boardRecipe n).conflictPolicy = .dryRun := hpolicy
    obtain ⟨hsequencer, htime, hports, htables⟩ := State.conflicted_keeps (s := s) n cell true
    have hentry : s.conflicted n cell true = (held true marked).append (.segmentConflict n i .dryRun cell.1 cell.2) :=
        by
      rw [State.conflicted, hdry]
      rfl
    have hkind : (s.conflicted n cell true).headOf g = (s.applicator a).kind :=
      (State.headOf_tool htool).trans (by simp only [State.applicator, htables])
    have hindex : (s.conflicted n cell true).sequencer.index = i := by rw [hsequencer]
    have hsent := State.sendSegment_as (h := ⟨g, true⟩) (by rw [hsequencer]) hindex htime hports hkind n
    simp only [hdry] at hfetch
    rw [hfetch, hsent, hentry]
  case stops =>
    intro u
    have hstop : (s.boardRecipe n).conflictPolicy = .stopBoard := hpolicy
    have hentry : s.conflicted n cell false = u := by
      rw [State.conflicted, hstop]
      rfl
    simp only [hstop, hentry] at hfetch
    exact hfetch

/-! ### SEG_STARTED and SEG_DONE (R90-R92) -/

theorem State.namesSegment_eq_some_iff {tag : Byte} {index : Half} {phase : Phase} {n : Tag} {h : HeldSegment} :
    s.namesSegment tag index phase = some (n, h) ↔ s.cellBoard = some n ∧ s.sequencer.segment = some h ∧
      s.sequencer.phase = phase ∧ tag.toNat = n.val ∧ index.toNat = s.sequencer.index := by
  unfold State.namesSegment
  split
  next m g hboard hsegment =>
    rw [hboard, hsegment]
    split
    next hnamed =>
      obtain ⟨hphase, htag, hindex⟩ := hnamed
      refine ⟨fun hmg => ?_, fun ⟨hm, hg, _⟩ => ?_⟩
      · cases hmg
        exact ⟨rfl, rfl, hphase, htag, hindex⟩
      · cases hm
        cases hg
        rfl
    next hnot =>
      refine ⟨fun hmg => ?_, fun ⟨hm, _, hnamed⟩ => ?_⟩
      · cases hmg
      · cases hm
        exact absurd hnamed hnot
  next hnone =>
    refine ⟨fun hmg => ?_, fun ⟨hm, hg, _⟩ => absurd hg (hnone n h hm)⟩
    cases hmg

theorem State.namesSegment_eq_none {tag : Byte} {index : Half} {phase : Phase}
    (h : ¬∃ n h, s.cellBoard = some n ∧ s.sequencer.segment = some h ∧ s.sequencer.phase = phase ∧
      tag.toNat = n.val ∧ index.toNat = s.sequencer.index) : s.namesSegment tag index phase = none :=
  Option.eq_none_iff_forall_ne_some.mpr fun ⟨n, g⟩ hg => h ⟨n, g, State.namesSegment_eq_some_iff.mp hg⟩

theorem exec_segStarted (h : s.idlePort .motion) (tag : Byte) (index : Half) :
    exec (.segStarted tag index) s = .next (s.takeSegStarted tag index) :=
  congrArg Host.Outcome.next (State.receiveFrame_idle h _ _)

theorem exec_segDone (h : s.idlePort .motion) (tag : Byte) (index : Half) :
    exec (.segDone tag index) s = .next (s.takeSegDone tag index) :=
  congrArg Host.Outcome.next (State.receiveFrame_idle h _ _)

/-- Settles O30: the named segment, its applicator and the pressure check decide. -/
theorem segStartedOpensTheValve : Obligations.SegStartedOpensTheValve := by
  intro s tag index hidle named started
  refine ⟨fun n h hnamed => ?named, fun hnone => ?ignored⟩
  case ignored =>
    rw [exec_segStarted hidle, State.takeSegStarted, State.namesSegment_eq_none hnone]
  case named =>
    have hnames : s.namesSegment tag index .sent = some (n, h) := State.namesSegment_eq_some_iff.mpr hnamed
    have htaken : exec (.segStarted tag index) s = .next (match h.wet with
        | none => started
        | some a => if started.pressureReady a then started.openValve a else started.abort .pressure (some a)) := by
      rw [exec_segStarted hidle, State.takeSegStarted, hnames]
      rfl
    refine ⟨fun hdry => ?dry, fun a hwet => ?_⟩
    case dry => rw [htaken, hdry]
    intro m
    have hready : started.pressureReady a = true ↔ s.sprays a := State.pressureReady_iff a
    refine ⟨fun hsprays => ?opens, fun hmode hband => ?aborts⟩
    case opens =>
      rw [htaken, hwet]
      dsimp only
      rw [if_pos (hready.mpr hsprays)]
      rfl
    case aborts =>
      rw [htaken, hwet]
      dsimp only
      rw [if_neg (mt hready.mp (not_sprays hmode hband))]

/-- A completed segment whose applicator, where it is wet, is finished with (R91). -/
def State.finishHeld (n : Tag) (h : HeldSegment) (s : State) : State :=
  match h.wet with
  | none => s
  | some a => s.finishWet n h.record a

theorem State.finishHeld_keeps (n : Tag) (h : HeldSegment) : (s.finishHeld n h).tracker = s.tracker ∧
    (s.finishHeld n h).tables = s.tables ∧ (s.finishHeld n h).line = s.line ∧
    (s.finishHeld n h).sequencer.index = s.sequencer.index := by
  unfold State.finishHeld
  split
  · exact ⟨rfl, rfl, rfl, rfl⟩
  · simp [State.finishWet]

/-- The segment ends, and the index advances (R91 step 3). -/
def State.segmentEnded (n : Tag) (h : HeldSegment) (s : State) : State :=
  (s.finishHeld n h).mapSequencer fun q =>
    { q with deadline := none, segment := none, phase := .none, index := s.sequencer.index + 1 }

theorem State.takeSegDone_named {tag : Byte} {index : Half} {n : Tag} {h : HeldSegment}
    (hnames : s.namesSegment tag index .started = some (n, h)) :
    s.takeSegDone tag index = (s.segmentEnded n h).boundary n := by
  obtain ⟨-, -, -, hindex⟩ := s.finishHeld_keeps n h
  rw [State.segmentEnded, ← hindex, State.takeSegDone, hnames]
  rfl

theorem State.segmentEnded_boundary (n : Tag) (h : HeldSegment) : (s.segmentEnded n h).boundary n =
    if s.sequencer.index + 1 = s.tables.programs[(s.boardRecipe n).program].segments.length then
      (s.segmentEnded n h).pathEnd n .complete
    else if s.line.mode = .freeze then (s.segmentEnded n h).setCell .paused none
    else (s.segmentEnded n h).fetch n := by
  obtain ⟨htracker, htables, hline, -⟩ := s.finishHeld_keeps n h
  have hrecipe : (s.segmentEnded n h).boardRecipe n = s.boardRecipe n := by
    simp only [State.segmentEnded, State.boardRecipe, State.recipe, State.record, State.mapSequencer_keeps, htracker,
      htables]
  have hkept : (s.segmentEnded n h).tables = s.tables ∧ (s.segmentEnded n h).line = s.line := ⟨htables, hline⟩
  have hindex : (s.segmentEnded n h).sequencer.index = s.sequencer.index + 1 := rfl
  simp only [State.boundary, hrecipe, hkept, hindex]

theorem State.finishWet_eq {a : ApplicatorId} {start : Time} (hstart : s.sequencer.valveStart = some start) (n : Tag)
    (g : Segment) : s.finishWet n g a = ({ s with
      sequencer := { s.sequencer with valve := none, valveStart := none }
      ports := { s.ports with fluid := s.ports.fluid.issue (.valveClose a) } } : State).deposit n g a
        (max 1 (min 65535 (s.lineTime - start).toNat)) s.sequencer.monitors[a].sum.toNat
        s.sequencer.monitors[a].count.toNat (s.sequencer.preStart.getD 0) := by
  rw [State.finishWet]
  simp only [hstart]
  rfl

/-- Settles O31: a wet segment is finished first; then the index decides. -/
theorem segDoneCompletesTheSegment : Obligations.SegDoneCompletesTheSegment := by
  intro s tag index hidle named
  refine ⟨fun n h start hnamed hstart => ?named, fun hnone => ?ignored⟩
  case ignored =>
    rw [exec_segDone hidle, State.takeSegDone, State.namesSegment_eq_none hnone]
  case named =>
    intro closed wet done last
    have hnames : s.namesSegment tag index .started = some (n, h) := State.namesSegment_eq_some_iff.mpr hnamed
    have hwet : s.finishHeld n h = wet := by
      simp only [State.finishHeld, wet]
      cases happlicator : h.wet with
      | none => rfl
      | some a => exact State.finishWet_eq (hstart a happlicator) n h.record
    have hdone : s.segmentEnded n h = done := by
      rw [State.segmentEnded, hwet]
      rfl
    have htaken : exec (.segDone tag index) s = .next (done.boundary n) := by
      rw [exec_segDone hidle, State.takeSegDone_named hnames, hdone]
    rw [htaken, ← hdone, State.segmentEnded_boundary]
    refine ⟨fun hlast => ?_, fun hmore hfreeze => ?_, fun hmore hmode => ?_⟩
    · rw [if_pos hlast]
    · rw [if_neg hmore, if_pos hfreeze]
    · rw [if_neg hmore, if_neg hmode]

/-! ### Aborts and the guard (R96-R98, R102) -/

/-- The valve is closed, HALT sent and the held segment discarded (R97 steps 1 to 3). -/
def State.halted (s : State) : State := (s.closeValve.send .halt).dropSegment

theorem State.closeValve_cases : (s.sequencer.valve = none ∧ s.closeValve = s) ∨
    ∃ a, s.sequencer.valve = some a ∧ s.closeValve = { s with
      sequencer := { s.sequencer with valve := none, valveStart := none }
      ports := { s.ports with fluid := s.ports.fluid.issue (.valveClose a) } } := by
  unfold State.closeValve
  cases hvalve : s.sequencer.valve with
  | none => exact .inl ⟨rfl, rfl⟩
  | some a => exact .inr ⟨a, rfl, rfl⟩

theorem State.dropSegment_cases : (s.sequencer.wetSegment = none ∧ s.dropSegment = { s with
      sequencer := { s.sequencer with segment := none, phase := .none, deadline := none } }) ∨
    ∃ a, s.sequencer.wetSegment = some a ∧ s.dropSegment = { s with
      sequencer := { s.sequencer with
        segment := none
        phase := .none
        deadline := none
        monitors := s.sequencer.monitors.set a { s.sequencer.monitors[a] with sum := 0, count := 0 } } } := by
  have hwet : s.sequencer.segment.bind HeldSegment.wet = s.sequencer.wetSegment := rfl
  unfold State.dropSegment
  rw [hwet]
  cases s.sequencer.wetSegment with
  | none => exact .inl ⟨rfl, rfl⟩
  | some a => exact .inr ⟨a, rfl, rfl⟩

theorem State.dropSegment_monitors (b : ApplicatorId) : s.dropSegment.sequencer.monitors[b] =
    if s.sequencer.wetSegment = some b then { s.sequencer.monitors[b] with sum := 0, count := 0 }
    else s.sequencer.monitors[b] := by
  obtain ⟨hwet, hdrop⟩ | ⟨a, hwet, hdrop⟩ := s.dropSegment_cases
  · rw [hdrop, hwet, if_neg (by simp)]
  · rw [hdrop, hwet, Vector.getElem_set_fin]
    by_cases hb : b = a
    · subst hb
      rw [if_pos rfl, if_pos rfl]
    · rw [if_neg hb, if_neg fun h => hb (Option.some.inj h).symm]

theorem State.dropSegment_sequencer : s.dropSegment.sequencer = { s.sequencer with
    segment := none, phase := .none, deadline := none, monitors := s.dropSegment.sequencer.monitors } := by
  obtain ⟨-, hdrop⟩ | ⟨a, -, hdrop⟩ := s.dropSegment_cases <;> rw [hdrop]

theorem State.closeValve_sequencer : s.closeValve.sequencer =
    { s.sequencer with valve := none, valveStart := s.closeValve.sequencer.valveStart } := by
  obtain ⟨hvalve, hclose⟩ | ⟨a, -, hclose⟩ := s.closeValve_cases <;> rw [hclose]
  rw [← hvalve]

theorem State.halted_sequencer : s.halted.sequencer = { s.sequencer with
    segment := none, phase := .none, deadline := none, valve := none
    valveStart := s.halted.sequencer.valveStart, monitors := s.halted.sequencer.monitors } := by
  have hclosed : (s.closeValve.send .halt).sequencer =
      { s.sequencer with valve := none, valveStart := s.closeValve.sequencer.valveStart } := State.closeValve_sequencer
  unfold State.halted
  rw [State.dropSegment_sequencer, hclosed]

theorem State.halted_monitors (b : ApplicatorId) : s.halted.sequencer.monitors[b] =
    if s.sequencer.wetSegment = some b then { s.sequencer.monitors[b] with sum := 0, count := 0 }
    else s.sequencer.monitors[b] := by
  have hkept : (s.closeValve.send .halt).sequencer.monitors = s.sequencer.monitors ∧
      (s.closeValve.send .halt).sequencer.wetSegment = s.sequencer.wetSegment := by
    simp only [State.send_keeps]
    rw [State.closeValve_sequencer]
    exact ⟨rfl, rfl⟩
  unfold State.halted
  rw [State.dropSegment_monitors, hkept.2, hkept.1]

theorem State.halted_ports : s.halted.ports = { s.ports with
    motion := s.ports.motion.issue .halt
    fluid := match s.sequencer.valve with
      | none => s.ports.fluid
      | some v => s.ports.fluid.issue (.valveClose v) } := by
  have hdrop : s.halted.ports = (s.closeValve.send .halt).ports := by simp [State.halted]
  rw [hdrop]
  obtain ⟨hvalve, hclose⟩ | ⟨a, hvalve, hclose⟩ := s.closeValve_cases <;> rw [hclose, hvalve] <;> rfl

@[simp] theorem State.halted_keeps : s.halted.tracker = s.tracker ∧ s.halted.exchange = s.exchange ∧
    s.halted.lineTime = s.lineTime ∧ s.halted.coverage = s.coverage ∧ s.halted.line = s.line ∧
    s.halted.tables = s.tables ∧ s.halted.cure = s.cure ∧ s.halted.holds = s.holds := by
  simp [State.halted]

theorem State.abort_eq {n : Tag} (hboard : s.cellBoard = some n) (cause : StopCause) (a : Option ApplicatorId) :
    s.abort cause a = ((s.halted.modifyRecord n (BoardRecord.addReason .sprayIncomplete)).mapSequencer fun q =>
      { q with stopCause := some cause, stopApplicator := a }).setCell .stopped (some cause) := by
  rw [State.abort, hboard]
  rfl

theorem State.abort_sequencer (cause : StopCause) (a : Option ApplicatorId) : (s.abort cause a).sequencer =
    { s.halted.sequencer with cell := .stopped, stopCause := some cause, stopApplicator := a } := by
  have hhalted : (s.closeValve.send .halt).dropSegment = s.halted := rfl
  unfold State.abort
  rw [hhalted]
  cases s.cellBoard <;> simp

theorem State.abort_record {n : Tag} (hboard : s.cellBoard = some n) (cause : StopCause) (a : Option ApplicatorId)
    (m : Tag) : (s.abort cause a).record m =
      if m = n then (s.record n).addReason .sprayIncomplete else s.record m := by
  have hrecord (k : Tag) : s.halted.record k = s.record k := State.record_of_boards (by simp) k
  have hboards : (s.abort cause a).tracker.boards =
      (s.halted.modifyRecord n (BoardRecord.addReason .sprayIncomplete)).tracker.boards := by
    rw [State.abort_eq hboard]
    simp
  rw [State.record_of_boards hboards, State.record_modifyRecord, hrecord, hrecord]

theorem State.abort_exchange {n : Tag} (hboard : s.cellBoard = some n) (cause : StopCause) (a : Option ApplicatorId) :
    (s.abort cause a).exchange =
      (s.append (.cellState (some n) .stopped s.sequencer.cell (some cause))).exchange := by
  have hkept : s.halted.cellBoard = some n := by simpa [State.cellBoard] using hboard
  have hcell : s.halted.sequencer.cell = s.sequencer.cell := by rw [State.halted_sequencer]
  rw [State.abort_eq hboard, State.setCell_exchange]
  refine (congrArg (fun e => (State.append e _).exchange) ?_).trans
    (State.append_exchange_congr (s := s) (by simp) (by simp) _)
  rw [if_neg (by decide)]
  exact congrArg₂ (fun board cell => Activity.cellState board .stopped cell (some cause)) hkept hcell

theorem State.abort_ports (cause : StopCause) (a : Option ApplicatorId) : (s.abort cause a).ports = s.halted.ports := by
  have hhalted : (s.closeValve.send .halt).dropSegment = s.halted := rfl
  unfold State.abort
  rw [hhalted]
  cases s.cellBoard <;> simp

theorem State.leavePaused_stays (h : ¬(s.sequencer.cell = .paused ∧ s.line.mode.spraying = true ∧
    s.sequencer.guard = .closed)) : s.leavePaused = s := by
  unfold State.leavePaused
  split
  · rfl
  · exact if_neg h

theorem State.abortActive_eq (cause : StopCause) : s.abortActive cause =
    if s.sequencer.cell = .running ∨ s.sequencer.cell = .interlocked then s.abort cause none else s := by
  unfold State.abortActive
  cases s.sequencer.cell <;> simp

theorem exec_guard_opened (h : s.idlePort .station) : exec (.guard 1) s = .next (s.takeGuard .opened) :=
  congrArg Host.Outcome.next (State.receiveFrame_idle h _ _)

theorem exec_guard_closed (h : s.idlePort .station) : exec (.guard 2) s = .next (s.takeGuard .closed) :=
  congrArg Host.Outcome.next (State.receiveFrame_idle h _ _)

theorem State.takeGuard_same (h : s.sequencer.guard = g) : s.takeGuard g = s := if_pos h

theorem State.takeGuard_opens (h : s.sequencer.guard = .closed) : s.takeGuard .opened =
    ({ s with sequencer := { s.sequencer with guard := .opened } } : State).abortActive .guard :=
  if_neg (by rw [h]; decide)

theorem State.takeGuard_closes (h : s.sequencer.guard = .opened) : s.takeGuard .closed =
    ({ s with sequencer := { s.sequencer with guard := .closed } } : State).leavePaused :=
  if_neg (by rw [h]; decide)

/-- Settles O32: the equations of an abort, and what a guard report meets. -/
theorem abortsAndTheGuardActOnTheCell : Obligations.AbortsAndTheGuardActOnTheCell := by
  refine ⟨⟨fun s cause a n hboard => ?abort, fun s diagnostic hidle hlength => ?motion, fun s d hrun hdeadline =>
    ?deadline, fun s hidle hguard => ?opens⟩, fun s hidle => ⟨fun hguard => ?_, fun hguard => ?_, fun code h1 h2 =>
      exec_guard_undefined hidle h1 h2, fun hguard => ?closes⟩⟩
  case abort =>
    intro t
    refine ⟨?_, fun b => ⟨fun hwet => ?_, fun hwet => ?_⟩, ?_, fun m hm => ?_, ?_, ?_, by simp [t], by simp [t],
      by simp [t], by simp [t], by simp [t]⟩
    · simp only [t, State.abort_sequencer]
      rw [State.halted_sequencer]
    · simp only [t, State.abort_sequencer]
      rw [State.halted_monitors, if_pos hwet]
    · simp only [t, State.abort_sequencer]
      rw [State.halted_monitors, if_neg hwet]
    · exact (State.abort_record hboard cause a n).trans (if_pos rfl)
    · exact (State.abort_record hboard cause a m).trans (if_neg hm)
    · exact (State.abort_ports cause a).trans State.halted_ports
    · exact State.abort_exchange hboard cause a
  case motion =>
    refine congrArg Host.Outcome.next ((if_pos hlength).trans ((State.receiveFrame_idle hidle _ _).trans ?_))
    simp only [State.takeMotionFault, Sequencer.inFlight_iff]
  case deadline =>
    refine congrArg Host.Outcome.next ((State.live_running hrun _).trans ?_)
    simp only [Bool.and_eq_true, Sequencer.inFlight_iff, hdeadline, expired, reached_iff]
  case opens =>
    intro opened
    rw [exec_guard_opened hidle, State.takeGuard_opens hguard, State.abortActive_eq]
  case closes =>
    intro closed leaves
    rw [exec_guard_closed hidle, State.takeGuard_closes hguard]
    refine ⟨fun hstays => ?stays, fun ⟨hpaused, hmode⟩ n hboard => ?_⟩
    case stays =>
      refine congrArg _ (State.leavePaused_stays fun ⟨hpaused, hmode, _⟩ => hstays ⟨hpaused, ?_⟩)
      exact LineMode.spraying_iff.mp hmode
    obtain ⟨-, hresumes⟩ := State.leavePaused_resumes (s := closed) (LineMode.spraying_iff.mpr hmode)
    obtain ⟨hfetches, hholds⟩ := hresumes n hpaused rfl hboard
    refine ⟨fun hnone => ?_, fun a hwet => ⟨fun hready => ?_, fun hinterlock hband => ?_⟩⟩
    · exact congrArg _ (hfetches (by simp [Sequencer.wetSegment, closed, hnone]))
    · exact congrArg _ ((hholds a hwet).1 hready)
    · exact congrArg _ ((hholds a hwet).2 (not_sprays (s := s) hinterlock hband))
  · exact (exec_guard_opened hidle).trans (congrArg _ (State.takeGuard_same hguard))
  · exact (exec_guard_closed hidle).trans (congrArg _ (State.takeGuard_same hguard))

/-! ### The pressure monitors (R93-R95) -/

/-- A monitor whose state has changed, with its entry (R93). -/
def State.changedMonitor (a : ApplicatorId) (new : PressureState) (sample : Nat) (s : State) : State :=
  (s.mapMonitor a fun m => { m with state := new }).append (.pressure a new (s.monitor a).state sample)

theorem State.changeMonitor_same {a : ApplicatorId} {new : PressureState} (h : new = (s.monitor a).state) (k : Nat) :
    s.changeMonitor a new k = s := if_pos h

theorem State.changeMonitor_changed {a : ApplicatorId} {new : PressureState} (h : new ≠ (s.monitor a).state) (k : Nat) :
    s.changeMonitor a new k =
      if new = .inBand then (s.changedMonitor a new k).enterBand a
      else if (s.monitor a).state = .inBand then (s.changedMonitor a new k).leaveBand a
      else s.changedMonitor a new k := if_neg h

theorem State.enterBand_resumes {a : ApplicatorId} {n : Tag} (hboard : s.cellBoard = some n)
    (hcell : s.sequencer.cell = .interlocked) (hwet : s.sequencer.wetSegment = some a) :
    s.enterBand a = (s.setCell .running none).sendSegment n := by
  rw [State.enterBand, hboard]
  exact if_pos ⟨hcell, hwet⟩

theorem State.enterBand_stays {a : ApplicatorId}
    (h : ¬(s.sequencer.cell = .interlocked ∧ s.sequencer.wetSegment = some a)) : s.enterBand a = s := by
  unfold State.enterBand
  split
  · rfl
  · exact if_neg h

theorem State.changedMonitor_sequencer (a : ApplicatorId) (new : PressureState) (k : Nat) :
    (s.changedMonitor a new k).sequencer = { s.sequencer with
      monitors := s.sequencer.monitors.set a { s.sequencer.monitors[a] with state := new } } := by
  simp [State.changedMonitor]

theorem State.changedMonitor_keeps (a : ApplicatorId) (new : PressureState) (k : Nat) :
    (s.changedMonitor a new k).cellBoard = s.cellBoard ∧
      (s.changedMonitor a new k).applicator a = s.applicator a := by
  simp [State.changedMonitor, State.cellBoard, State.applicator]

/-- A monitor that leaves the band aborts the segment whose valve is open. -/
theorem State.changeMonitor_trips {a : ApplicatorId} {new : PressureState} (hnew : new ≠ .inBand)
    (hold : (s.monitor a).state = .inBand) (hvalve : s.sequencer.valve = some a)
    (hmode : (s.applicator a).mode = .interlock) (k : Nat) :
    s.changeMonitor a new k = (s.changedMonitor a new k).abort .pressure (some a) := by
  have htrips : (s.changedMonitor a new k).sequencer.valve = some a ∧
      ((s.changedMonitor a new k).applicator a).mode = .interlock := by
    rw [State.changedMonitor_sequencer, (State.changedMonitor_keeps a new k).2]
    exact ⟨hvalve, hmode⟩
  rw [State.changeMonitor_changed (hold ▸ hnew), if_neg hnew, if_pos hold]
  exact if_pos htrips

/-- A monitor that comes into the band sends the segment that waits on it. -/
theorem State.changeMonitor_resumes {a : ApplicatorId} {n : Tag} (hold : (s.monitor a).state ≠ .inBand)
    (hboard : s.cellBoard = some n) (hcell : s.sequencer.cell = .interlocked)
    (hwet : s.sequencer.wetSegment = some a) (k : Nat) :
    s.changeMonitor a .inBand k = ((s.changedMonitor a .inBand k).setCell .running none).sendSegment n := by
  rw [State.changeMonitor_changed hold.symm, if_pos rfl]
  refine State.enterBand_resumes ((State.changedMonitor_keeps a .inBand k).1.trans hboard) ?_ ?_
  · rw [State.changedMonitor_sequencer]
    exact hcell
  · rw [State.changedMonitor_sequencer]
    exact hwet

theorem State.changeMonitor_recorded {a : ApplicatorId} {new : PressureState} (hchanged : new ≠ (s.monitor a).state)
    (hresumes : ¬(new = .inBand ∧ s.sequencer.cell = .interlocked ∧ s.sequencer.wetSegment = some a))
    (htrips : ¬((s.monitor a).state = .inBand ∧ s.sequencer.valve = some a ∧ (s.applicator a).mode = .interlock))
    (k : Nat) : s.changeMonitor a new k = s.changedMonitor a new k := by
  rw [State.changeMonitor_changed hchanged]
  split
  next hnew =>
    refine State.enterBand_stays fun ⟨hcell, hwet⟩ => hresumes ⟨hnew, ?_⟩
    rw [State.changedMonitor_sequencer] at hcell hwet
    exact ⟨hcell, hwet⟩
  next =>
    split
    next hold =>
      refine if_neg fun ⟨hvalve, hmode⟩ => htrips ⟨hold, ?_⟩
      rw [State.changedMonitor_sequencer] at hvalve
      rw [(State.changedMonitor_keeps a new k).2] at hmode
      exact ⟨hvalve, hmode⟩
    next => rfl

theorem State.monitor_mapMonitor (a : ApplicatorId) (f : Monitor → Monitor) :
    (s.mapMonitor a f).monitor a = f (s.monitor a) := by
  simp [State.monitor]

theorem State.mapMonitor_mapMonitor (a : ApplicatorId) (f g : Monitor → Monitor) :
    (s.mapMonitor a f).mapMonitor a g = s.mapMonitor a fun m => g (f m) := by
  simp [State.mapMonitor, State.mapSequencer]

theorem State.mapMonitor_id {a : ApplicatorId} {f : Monitor → Monitor} (h : f (s.monitor a) = s.monitor a) :
    s.mapMonitor a f = s := by
  have hf : f s.sequencer.monitors[a] = s.sequencer.monitors[a] := h
  rw [State.mapMonitor, State.mapSequencer, hf]
  simp

/-- Settles O37: a reached silence deadline changes the monitor as a sample does. -/
theorem silentMonitorsBecomeUnknown : Obligations.SilentMonitorsBecomeUnknown := by
  intro s a hrun q old quiet sample
  obtain ⟨u, hu⟩ : ∃ u, u = s.mapMonitor a fun m => { m with silence := none } := ⟨_, rfl⟩
  have hstate : (u.monitor a).state = old.state := by
    rw [hu, State.monitor_mapMonitor]
    rfl
  have hquiet : (u.mapMonitor a fun m => { m with state := .unknown }) = quiet := by
    rw [hu, State.mapMonitor_mapMonitor]
    rfl
  have hsample : (s.monitor a).lastSample.getD 0 = sample := by
    simp only [sample, State.monitor]
    cases old.lastSample <;> rfl
  have hexec : exec (.pressureSilenceDeadlineExpiry a) s =
      .next (if expired old.silence s.lineTime then u.changeMonitor a .unknown sample else s) := by
    refine congrArg Host.Outcome.next ((State.live_running hrun _).trans ?_)
    rw [hsample, ← hu]
    rfl
  refine ⟨fun hnone => ?_, fun d hd => ⟨fun hearly => ?_, fun hreached => ?_⟩⟩
  · rw [hexec, hnone]
    rfl
  · rw [hexec, hd, expired, reached_eq_false_iff.mpr hearly]
    rfl
  · rw [hexec, hd, expired, reached_iff.mpr hreached, if_pos rfl]
    refine ⟨fun hunknown => ?_, fun hknown => ?_⟩
    · rw [State.changeMonitor_same (by rw [hstate, hunknown]), ← hquiet, State.mapMonitor_id]
      exact congrArg (fun v => { u.monitor a with state := v }) (hunknown.symm.trans hstate.symm)
    · have hchanged : PressureState.unknown ≠ (u.monitor a).state := by rw [hstate]; exact hknown.symm
      have hentry : u.changedMonitor a .unknown sample = quiet.append (.pressure a .unknown old.state sample) := by
        rw [State.changedMonitor, hquiet, hstate]
      have hvalve : u.sequencer.valve = q.valve := by rw [hu]; rfl
      have happlicator : u.applicator a = s.applicator a := by rw [hu]; rfl
      intro v trips
      refine ⟨fun ⟨hold, hopen, hmode⟩ => ?_, fun hnot => ?_⟩
      · rw [State.changeMonitor_trips (by decide) (hstate.trans hold) (hvalve.trans hopen)
          (by rw [happlicator, hmode]), hentry]
      · rw [State.changeMonitor_recorded hchanged (fun h => PressureState.noConfusion h.1) ?_, hentry]
        rw [hstate, hvalve, happlicator]
        exact hnot

/-- The state that a sample is judged into (R93). -/
theorem PressureState.judge_eq (old : PressureState) (low high p : Nat) : old.judge low high p =
    if old = .inBand then (if p < low then .low else if high < p then .high else .inBand)
    else if low + 5 ≤ p ∧ p + 5 ≤ high then .inBand
    else if p < low + 5 then .low else .high := by
  have houtside : (if p < low + 5 then PressureState.low else if high < p + 5 then .high else .inBand) =
      if low + 5 ≤ p ∧ p + 5 ≤ high then .inBand else if p < low + 5 then .low else .high := by
    by_cases hlow : p < low + 5
    · rw [if_pos hlow, if_neg (by omega), if_pos hlow]
    · by_cases hhigh : high < p + 5
      · rw [if_neg hlow, if_pos hhigh, if_neg (by omega), if_neg hlow]
      · rw [if_neg hlow, if_neg hhigh, if_pos (by omega)]
  cases old with
  | inBand => rfl
  | unknown => exact houtside
  | low => exact houtside
  | high => exact houtside

section
variable {a : ApplicatorId} {applicator : Byte}

theorem applicatorId_ofNat (ha : a.val = applicator.toNat) : Fin.ofNat 4 applicator.toNat = a :=
  Fin.ext (by rw [← ha]; exact Nat.mod_eq_of_lt a.isLt)

theorem State.takePressure_unloaded (ha : a.val = applicator.toNat) (kPa : Half)
    (hrecord : s.tables.applicators[a].record = none) :
    s.takePressure applicator kPa = s.storeSample a (min 1023 kPa.toNat) := by
  have hle : applicator.toNat ≤ 3 := ha ▸ Nat.le_of_lt_succ a.isLt
  obtain rfl := applicatorId_ofNat ha
  rw [State.takePressure, if_pos hle]
  simp only [hrecord]

theorem State.takePressure_loaded (ha : a.val = applicator.toNat) (kPa : Half) {r : Applicator}
    (hrecord : s.tables.applicators[a].record = some r) : s.takePressure applicator kPa =
      (s.storeSample a (min 1023 kPa.toNat)).changeMonitor a
        ((s.monitor a).state.judge r.bandLow r.bandHigh (min 1023 kPa.toNat)) (min 1023 kPa.toNat) := by
  have hle : applicator.toNat ≤ 3 := ha ▸ Nat.le_of_lt_succ a.isLt
  obtain rfl := applicatorId_ofNat ha
  rw [State.takePressure, if_pos hle]
  simp only [hrecord]

end

/-- The monitor of an applicator with a sample stored (R93, R95). -/
theorem State.storeSample_eq (a : ApplicatorId) (p : Nat) : s.storeSample a p = s.mapMonitor a fun m => { m with
    lastSample := some p
    silence := some (s.lineTime + 1000)
    sum := if s.sequencer.valve ≠ some a then m.sum else addSample m.sum p
    count := if s.sequencer.valve ≠ some a then m.count else countSample m.count } := by
  by_cases hvalve : s.sequencer.valve = some a
  · simp only [State.storeSample, hvalve, beq_self_eq_true, if_true, ne_eq, not_true_eq_false, if_false,
      Config.pressureSilence]
  · have hclosed : (s.sequencer.valve == some a) = false := beq_eq_false_iff_ne.mpr hvalve
    simp only [State.storeSample, hclosed, ne_eq, hvalve, not_false_eq_true, if_true, Bool.false_eq_true, if_false,
      Config.pressureSilence]

/-- Settles O36: the sample is stored, and the monitor changes as its judgement says. -/
theorem pressureSamplesAreJudged : Obligations.PressureSamplesAreJudged := by
  intro s applicator kPa hidle
  have hexec : exec (.pressure applicator kPa) s = .next (s.takePressure applicator kPa) :=
    congrArg Host.Outcome.next (State.receiveFrame_idle hidle _ _)
  refine ⟨fun hhigh => ?_, fun a ha => ?_⟩
  · rw [hexec, State.takePressure, if_neg (by omega)]
  intro p q old sampled stored
  obtain ⟨v, hv⟩ : ∃ v, v = s.storeSample a p := ⟨_, rfl⟩
  have hstate : (v.monitor a).state = old.state := by
    rw [hv, State.storeSample_eq, State.monitor_mapMonitor]
    rfl
  have hstored (new : PressureState) : (v.mapMonitor a fun m => { m with state := new }) = stored new := by
    rw [hv, State.storeSample_eq, State.mapMonitor_mapMonitor]
    rfl
  have hsame : v = stored old.state := by
    rw [← hstored, State.mapMonitor_id]
    rw [← hstate]
  refine ⟨fun hnone => ?_, fun r hrecord => ?_⟩
  · rw [hexec, State.takePressure_unloaded ha kPa hnone, ← hsame, hv]
  intro new
  have hjudged : exec (.pressure applicator kPa) s = .next (v.changeMonitor a new p) := by
    rw [hexec, State.takePressure_loaded ha kPa hrecord, PressureState.judge_eq, hv]
    rfl
  have hentry : v.changedMonitor a new p = (stored new).append (.pressure a new old.state p) := by
    rw [State.changedMonitor, hstored, hstate]
  have hsequencer : v.sequencer.valve = q.valve ∧ v.sequencer.cell = q.cell ∧
      v.sequencer.wetSegment = q.wetSegment := by
    rw [hv]
    exact ⟨rfl, rfl, rfl⟩
  obtain ⟨hvalve, hcell, hwet⟩ := hsequencer
  have hmode : (v.applicator a).mode = r.mode := by
    have htable : v.applicator a = s.applicator a := by rw [hv]; rfl
    rw [htable, State.applicator, hrecord]
    rfl
  refine ⟨fun hunchanged => ?_, fun hchanged => ?_⟩
  · rw [hjudged, State.changeMonitor_same (hunchanged.trans hstate.symm), hsame]
  have hnew : new ≠ (v.monitor a).state := hstate ▸ hchanged
  intro u resumes trips
  refine ⟨fun n hboard ⟨hin, hlocked, hheld⟩ => ?_, fun ⟨hold, hopen, hlock⟩ => ?_, fun hnot hkept => ?_⟩
  · have hout : (v.monitor a).state ≠ .inBand := fun h => hnew (hin.trans h.symm)
    have hvboard : v.cellBoard = some n := by rw [hv]; exact hboard
    have hresumed := State.changeMonitor_resumes hout hvboard (hcell.trans hlocked) (hwet.trans hheld) p
    rw [← hin, hentry] at hresumed
    rw [hjudged, hresumed]
  · have hleft : new ≠ .inBand := fun h => hchanged (h.trans hold.symm)
    rw [hjudged, State.changeMonitor_trips hleft (hstate.trans hold) (hvalve.trans hopen) (hmode.trans hlock), hentry]
  · rw [hjudged, State.changeMonitor_recorded hnew ?_ ?_, hentry]
    · rw [hcell, hwet]
      exact hnot
    · rw [hstate, hvalve, hmode]
      exact hkept

/-! ### Spray start (R85, R86) -/

theorem State.fetch_cases (n : Tag) : s.fetch n = (s.fetchedInto n (s.record n) false).sendSegment n ∨
    (∃ a, s.fetch n = (s.fetchedInto n (s.record n) false).pressureCheck n a) ∨
    (∃ cell, s.fetch n = (s.conflicted n cell true).sendSegment n) ∨
    ∃ cell, s.fetch n =
      ((s.conflicted n cell false).mapSequencer fun q => { q with segment := none }).pathEnd n .stopBoard := by
  cases htool : (s.fetched (s.boardRecipe n).program s.sequencer.index).applicator with
  | none => exact .inl (State.fetch_move htool)
  | some a =>
    cases hhit : (s.boardRecipe n).firstKeepOut (s.record n).maskResults
        (s.fetched (s.boardRecipe n).program s.sequencer.index) with
    | none => exact .inr (.inl ⟨a, State.fetch_clear htool hhit⟩)
    | some cell =>
      have hfetch := State.fetch_conflict htool hhit
      cases hpolicy : (s.boardRecipe n).conflictPolicy with
      | dryRun =>
        simp only [hpolicy] at hfetch
        exact .inr (.inr (.inl ⟨cell, hfetch⟩))
      | stopBoard =>
        simp only [hpolicy] at hfetch
        exact .inr (.inr (.inr ⟨cell, hfetch⟩))

/-- What spraying does not change of a record. -/
def BoardRecord.steady (b c : BoardRecord) : Prop :=
  c.stage = b.stage ∧ c.sprayStart = b.sprayStart ∧ c.serial = b.serial ∧ c.mapFrame = b.mapFrame

theorem State.fetchedInto_record (n : Tag) (b : BoardRecord) (dry : Bool) :
    (s.fetchedInto n b dry).record n = { b with lastSegment := some s.sequencer.index } := by
  simp [State.record, State.fetchedInto]

@[simp] theorem State.sendSegment_record (n m : Tag) : (s.sendSegment n).record m = s.record m :=
  State.record_of_boards (by simp) m

@[simp] theorem State.pressureCheck_record (n m : Tag) (a : ApplicatorId) :
    (s.pressureCheck n a).record m = s.record m :=
  State.record_of_boards (by simp) m

@[simp] theorem State.mapSequencer_record (f : Sequencer → Sequencer) (m : Tag) :
    (s.mapSequencer f).record m = s.record m := rfl

theorem State.fetch_record (n : Tag) : (s.record n).steady ((s.fetch n).record n) ∧
    ((s.fetch n).record n).lastSegment = some s.sequencer.index := by
  have hconflicted (cell : Nat × Nat) (dry : Bool) : (s.conflicted n cell dry).record n =
      { (s.record n).conflict s.sequencer.index with lastSegment := some s.sequencer.index } := by
    rw [State.conflicted, State.append_record, State.fetchedInto_record]
  obtain h | ⟨a, h⟩ | ⟨cell, h⟩ | ⟨cell, h⟩ := s.fetch_cases n <;> rw [h]
  · rw [State.sendSegment_record, State.fetchedInto_record]
    exact ⟨⟨rfl, rfl, rfl, rfl⟩, rfl⟩
  · rw [State.pressureCheck_record, State.fetchedInto_record]
    exact ⟨⟨rfl, rfl, rfl, rfl⟩, rfl⟩
  · rw [State.sendSegment_record, hconflicted]
    exact ⟨⟨rfl, rfl, rfl, rfl⟩, rfl⟩
  · rw [State.pathEnd_record, if_pos rfl, BoardRecord.evaluated_eq, State.mapSequencer_record, hconflicted]
    exact ⟨⟨rfl, rfl, rfl, rfl⟩, rfl⟩

theorem State.fetch_index (n : Tag) : (s.fetch n).sequencer.index = s.sequencer.index := by
  obtain h | ⟨a, h⟩ | ⟨cell, h⟩ | ⟨cell, h⟩ := s.fetch_cases n <;> rw [h]
  · rw [State.sendSegment_eq rfl]
    rfl
  · unfold State.pressureCheck
    split
    · rw [State.sendSegment_eq rfl]
      rfl
    · rw [State.setCell_sequencer]
      rfl
  · obtain ⟨hsequencer, -⟩ := State.conflicted_keeps (s := s) n cell true
    rw [State.sendSegment_eq (h := ⟨_, true⟩) (by rw [hsequencer]), hsequencer]
  · obtain ⟨hsequencer, -⟩ := State.conflicted_keeps (s := s) n cell false
    rw [State.pathEnd_sequencer, State.mapSequencer_sequencer, hsequencer]

theorem State.allocate_record (n : Tag) : (s.allocate n).record n =
    { s.record n with mapFrame := ((s.allocate n).record n).mapFrame } := by
  cases hframe : (s.record n).mapFrame with
  | some f =>
    have hown : (s.allocate n).record n = s.record n := by
      rw [State.allocate_owned hframe]
      rfl
    rw [hown]
  | none =>
    cases hfree : s.freeFrame with
    | some f => rw [State.allocate_free hframe hfree, (State.takeFrame_spec f n).2.1 n, if_pos rfl]
    | none =>
      cases hreclaimed : s.reclaimed with
      | none =>
        have hkept : s.allocate n = s := by simp only [State.allocate, hframe, hfree, hreclaimed]
        rw [hkept]
      | some given =>
        obtain ⟨o, f⟩ := given
        rw [State.allocate_reclaimed hframe hfree hreclaimed, State.append_record, (State.takeFrame_spec f n).2.1 n,
          if_pos rfl, State.record_modifyRecord]
        split
        next h =>
          subst h
          rfl
        next => rfl

/-- A board with a frame, or with a FREE one to take, is given an ACTIVE frame. -/
theorem State.allocate_active {n : Tag} (h : (s.record n).mapFrame ≠ none ∨
    ∃ f : FrameId, s.coverage.frames[f].state = .free) :
    ∃ f : FrameId, ((s.allocate n).record n).mapFrame = some f ∧ (s.allocate n).coverage.frames[f].state = .active := by
  cases hframe : (s.record n).mapFrame with
  | some f =>
    rw [State.allocate_owned hframe]
    exact ⟨f, hframe, by rw [State.frames_setFrame, if_pos rfl]⟩
  | none =>
    cases hfree : s.freeFrame with
    | some f =>
      obtain ⟨hframes, hrecord, -⟩ := State.takeFrame_spec (s := s) f n
      rw [State.allocate_free hframe hfree]
      refine ⟨f, by rw [hrecord, if_pos rfl], ?_⟩
      rw [hframes, Vector.getElem_set_fin, if_pos rfl]
    | none =>
      obtain hnamed | ⟨f, hf⟩ := h
      · exact absurd hframe hnamed
      · exact absurd hf (State.freeFrame_eq_none_iff.mp hfree f)

/-- The state that is given a frame at INFEED_TO_CELL done. -/
def State.intoCell (n : Tag) (l : List Place) (s : State) : State := { s with
  tracker := { s.tracker with
    infeedToCell := .idle
    infeed := l
    cell := [⟨n, false⟩]
    boards := s.tracker.boards.set n { s.record n with stage := .spraying, sprayStart := some s.lineTime } }
  sequencer := { s.sequencer with index := 0, segment := none, phase := .none } }

/-- The board that INFEED_TO_CELL brings, ahead of spray start. -/
def State.broughtIn (n : Tag) (s : State) : State :=
  (s.mapTracker fun k => { k with cell := joinTail k.cell n }).modifyRecord n fun b => { b with stage := .spraying }

theorem State.broughtIn_pre {p : Place} {l : List Place} (hlist : s.tracker.infeed = p :: l)
    (hcell : s.tracker.cell = []) : ((((s.endTransfer .infeedToCell).broughtIn p.tag).mapSequencer fun q =>
      { q with index := 0, segment := none, phase := .none }).modifyRecord p.tag fun b =>
        { b with sprayStart := some s.lineTime }) = s.intoCell p.tag l := by
  have htracker : (s.endTransfer .infeedToCell).tracker =
      { s.tracker with infeed := l, infeedToCell := .idle } := by
    have htail : s.tracker.infeed.tail = l := by rw [hlist]; rfl
    rw [← htail]
    rfl
  simp [State.broughtIn, State.modifyRecord, State.setRecord, State.mapTracker, State.mapSequencer, State.record,
    State.intoCell, htracker, hcell, joinTail]

theorem State.sprayStart_faulted (hmode : s.line.mode = .faulted) {u : State} {n : Tag}
    (hu : ((s.mapSequencer fun q => { q with index := 0, segment := none, phase := .none }).modifyRecord n fun b =>
      { b with sprayStart := some s.lineTime }) = u) : s.sprayStart n =
    ((((u.allocate n).modifyRecord n (BoardRecord.addReason .sprayIncomplete)).send .halt).mapSequencer fun q =>
      { q with stopCause := some .motion }).setCell .stopped (some .motion) := by
  rw [State.sprayStart, hmode, ← hu]

theorem State.sprayStart_paused (hmode : s.line.mode = .freeze ∨
    (s.line.mode = .run ∨ s.line.mode = .drain) ∧ s.sequencer.guard = .opened) {u : State} {n : Tag}
    (hu : ((s.mapSequencer fun q => { q with index := 0, segment := none, phase := .none }).modifyRecord n fun b =>
      { b with sprayStart := some s.lineTime }) = u) : s.sprayStart n = (u.allocate n).setCell .paused none := by
  obtain hfreeze | ⟨hrun | hdrain, hguard⟩ := hmode
  · rw [State.sprayStart, hfreeze, ← hu]
  · rw [State.sprayStart, hrun, ← hu]
    exact if_neg (by rw [hguard]; decide)
  · rw [State.sprayStart, hdrain, ← hu]
    exact if_neg (by rw [hguard]; decide)

theorem State.sprayStart_runs (hmode : s.line.mode = .run ∨ s.line.mode = .drain) (hguard : s.sequencer.guard = .closed)
    {u : State} {n : Tag}
    (hu : ((s.mapSequencer fun q => { q with index := 0, segment := none, phase := .none }).modifyRecord n fun b =>
      { b with sprayStart := some s.lineTime }) = u) :
    s.sprayStart n = ((u.allocate n).setCell .running none).fetch n := by
  obtain hrun | hdrain := hmode
  · rw [State.sprayStart, hrun, ← hu]
    exact if_pos hguard
  · rw [State.sprayStart, hdrain, ← hu]
    exact if_pos hguard

/-- What every spray start leaves, whatever the mode and the guard; `a` is the state with the frame given. -/
def State.madeInCell (s a : State) (n : Tag) (l : List Place) (t : State) : Prop :=
  t.tracker.infeedToCell = .idle ∧ t.tracker.infeed = l ∧
    t.tracker.cell = [⟨n, false⟩] ∧ (t.record n).stage = .spraying ∧ (t.record n).sprayStart = some s.lineTime ∧
    (t.record n).serial = (s.record n).serial ∧ (t.record n).mapFrame = (a.record n).mapFrame ∧
    t.coverage = a.coverage ∧ t.sequencer.index = 0 ∧ t.line = s.line ∧ t.holds = s.holds ∧
    t.cure = s.cure ∧ t.verifier = s.verifier ∧ t.tables = s.tables

theorem State.intoCell_record (n : Tag) (l : List Place) : (s.intoCell n l).record n =
    { s.record n with stage := .spraying, sprayStart := some s.lineTime } := by
  simp [State.record, State.intoCell]

theorem State.intoCell_allocated (n : Tag) (l : List Place) :
    ((s.intoCell n l).allocate n).record n = { s.record n with
      stage := .spraying
      sprayStart := some s.lineTime
      mapFrame := (((s.intoCell n l).allocate n).record n).mapFrame } := by
  rw [State.allocate_record, State.intoCell_record]

/-- A state that keeps what spray start gave the board, and all that the cell does not own. -/
theorem State.madeInCell_of {a t : State} {n : Tag} {l : List Place} (ha : a = (s.intoCell n l).allocate n)
    (hlayout : t.tracker.layout = a.tracker.layout) (hrecord : (a.record n).steady (t.record n))
    (hindex : t.sequencer.index = a.sequencer.index) (hcoverage : t.coverage = a.coverage)
    (hkept : t.line = a.line ∧ t.holds = a.holds ∧ t.cure = a.cure ∧ t.verifier = a.verifier ∧ t.tables = a.tables) :
    s.madeInCell a n l t := by
  obtain ⟨hstage, hstart, hserial, hframe⟩ := hrecord
  obtain ⟨hline, hholds, hcure, hverifier, htables⟩ := hkept
  have hlists : t.tracker.layout = (s.intoCell n l).tracker.layout := by rw [hlayout, ha, State.allocate_layout]
  have harecord := ha ▸ State.intoCell_allocated (s := s) n l
  have hakept : a.sequencer.index = 0 ∧ a.line = s.line ∧ a.holds = s.holds ∧ a.cure = s.cure ∧
      a.verifier = s.verifier ∧ a.tables = s.tables := by
    rw [ha]
    simp only [State.allocate_keeps]
    exact ⟨rfl, rfl, rfl, rfl, rfl, rfl⟩
  obtain ⟨haindex, haline, haholds, hacure, haverifier, hatables⟩ := hakept
  refine ⟨congrArg Tracker.infeedToCell hlists, congrArg Tracker.infeed hlists, congrArg Tracker.cell hlists,
    ?_, ?_, ?_, hframe, hcoverage, hindex.trans haindex, hline.trans haline, hholds.trans haholds, hcure.trans hacure,
    hverifier.trans haverifier, htables.trans hatables⟩
  · rw [hstage, harecord]
  · rw [hstart, harecord]
  · rw [hserial, harecord]

section
variable {d : Time} {slot : Nat} {p : Place} {l : List Place}

theorem exec_infeedDone (hidle : s.idlePort .station) (hroute : s.tracker.infeedToCell = .inFlight d slot)
    (hlist : s.tracker.infeed = p :: l) :
    exec (.transferDone 3) s = .next (((s.endTransfer .infeedToCell).broughtIn p.tag).sprayStart p.tag) := by
  refine (exec_transferDone hidle (r := .infeedToCell) rfl).trans (congrArg _ ?_)
  rw [State.takeTransferDone_inFlight (r := .infeedToCell) hroute hlist]
  rfl

end

/-- SPRAY_INCOMPLETE, HALT and the stop cause of a board brought into the cell of a faulted line (R85). -/
def State.haltedEntry (n : Tag) (a : State) : State :=
  ((a.modifyRecord n (BoardRecord.addReason .sprayIncomplete)).send .halt).mapSequencer fun q =>
    { q with stopCause := some .motion }

theorem State.haltedEntry_eq (n : Tag) : s.haltedEntry n = { s with
    tracker := { s.tracker with
      boards := s.tracker.boards.set n { s.record n with reasons := (s.record n).reasons ||| 16 } }
    ports := { s.ports with motion := s.ports.motion.issue .halt }
    sequencer := { s.sequencer with stopCause := some .motion } } := rfl

theorem State.haltedEntry_record (n : Tag) : (s.haltedEntry n).record n = (s.record n).addReason .sprayIncomplete :=
  State.modifyRecord_same n _

@[simp] theorem State.setCell_record (v : CellState) (cause : Option StopCause) (m : Tag) :
    (s.setCell v cause).record m = s.record m := State.record_of_boards (by simp) m

/-- Settles O26: the frame first, then the mode and the guard decide. -/
theorem sprayStartFollowsModeAndGuard : Obligations.SprayStartFollowsModeAndGuard := by
  intro s d slot p l hidle hroute hlist hempty n a made
  have hexec := exec_infeedDone hidle hroute hlist
  have hpre := State.broughtIn_pre hlist hempty
  have hline : ((s.endTransfer .infeedToCell).broughtIn n).line = s.line := rfl
  have hguards : ((s.endTransfer .infeedToCell).broughtIn n).sequencer = s.sequencer := rfl
  have ha : a = (s.intoCell n l).allocate n := rfl
  clear_value a
  have hports : a.ports = s.ports := by
    rw [ha]
    simp only [State.allocate_keeps]
    rfl
  refine ⟨fun hframe => ?frame, fun hmode => ?faulted, fun hmode => ?paused, fun ⟨hmode, hguard⟩ => ?runs,
    fun u new cause => rfl⟩
  case frame =>
    rw [ha]
    exact State.allocate_active (s := s.intoCell n l) (by rw [State.intoCell_record]; exact hframe)
  case faulted =>
    have hstart := State.sprayStart_faulted (hline ▸ hmode) hpre
    have hentry : exec (.transferDone 3) s = .next ((a.haltedEntry n).setCell .stopped (some .motion)) := by
      rw [hexec, hstart, ha]
      rfl
    refine ⟨_, hentry, State.madeInCell_of ha ?_ ?_ ?_ ?_ ?_, ?_⟩
    · simp only [State.setCell_keeps]
      rfl
    · rw [State.setCell_record, State.haltedEntry_record]
      exact ⟨rfl, rfl, rfl, rfl⟩
    · rw [State.setCell_sequencer]
      rfl
    · simp only [State.setCell_keeps]
      rfl
    · simp only [State.setCell_keeps]
      exact ⟨rfl, rfl, rfl, rfl, rfl⟩
    · rw [State.haltedEntry_eq, hports]
  case paused =>
    have hstart := State.sprayStart_paused (by rw [hline, hguards]; exact hmode) hpre
    have hentry : exec (.transferDone 3) s = .next (a.setCell .paused none) := by
      rw [hexec, hstart, ha]
    have hsegment : a.sequencer.phase = .none ∧ (a.record n).lastSegment = (s.record n).lastSegment := by
      refine ⟨?_, ?_⟩
      · rw [ha]
        simp only [State.allocate_keeps]
        rfl
      · rw [ha, State.intoCell_allocated]
    refine ⟨_, hentry, State.madeInCell_of ha ?_ ?_ ?_ ?_ ?_, rfl, ?_, ?_, ?_, ?_⟩
    · simp only [State.setCell_keeps]
    · rw [State.setCell_record]
      exact ⟨rfl, rfl, rfl, rfl⟩
    · rw [State.setCell_sequencer]
    · simp only [State.setCell_keeps]
    · simp only [State.setCell_keeps]
      exact ⟨trivial, trivial, trivial, trivial, trivial⟩
    · rw [State.setCell_sequencer]
    · rw [State.setCell_sequencer, hsegment.1]
    · rw [State.setCell_record, hsegment.2]
    · simp only [State.setCell_keeps, hports]
  case runs =>
    have hstart := State.sprayStart_runs (hline ▸ hmode) (hguards ▸ hguard) hpre
    have hentry : exec (.transferDone 3) s = .next ((a.setCell .running none).fetch n) := by
      rw [hexec, hstart, ha]
    obtain ⟨hsteady, hlast⟩ := State.fetch_record (s := a.setCell .running none) n
    have hindex : (a.setCell .running none).sequencer.index = a.sequencer.index := by rw [State.setCell_sequencer]
    rw [State.setCell_record] at hsteady
    refine ⟨_, hentry, State.madeInCell_of ha ?_ hsteady ?_ ?_ ?_, rfl, ?_⟩
    · simp only [State.fetch_layout, State.setCell_keeps]
    · rw [State.fetch_index, hindex]
    · simp
    · simp
    · rw [hlast, hindex, ha]
      simp only [State.allocate_keeps]
      rfl

end Sys2Proof.Machine
end

section
/-! PROOFS. The deposit on a board's frame and the evaluation at path end (chapter 6). -/

namespace Sys2Proof.Machine

variable {s : State}

/-! ### Bands on the grid (R55) -/

theorem mem_span {lo hi : Int} {n i : Nat} : i ∈ span lo hi n ↔ i < n ∧ lo ≤ (i : Int) ∧ (i : Int) ≤ hi := by
  simp [span]

theorem mem_rowMajor {columns rows : List Nat} {column row : Nat} :
    (column, row) ∈ rowMajor columns rows ↔ column ∈ columns ∧ row ∈ rows := by
  simp [rowMajor, and_comm]

theorem nodup_rowMajor {columns rows : List Nat} (hcolumns : columns.Nodup) (hrows : rows.Nodup) :
    (rowMajor columns rows).Nodup := by
  refine List.nodup_flatMap.mpr ⟨fun row _ => hcolumns.map fun a b h => congrArg Prod.fst h, ?_⟩
  refine hrows.imp fun {a b} hne => List.disjoint_left.mpr fun cell ha hb => hne ?_
  obtain ⟨c, -, rfl⟩ := List.mem_map.mp ha
  obtain ⟨e, -, he⟩ := List.mem_map.mp hb
  exact (congrArg Prod.snd he).symm

theorem Recipe.mem_bandCells {r : Recipe} {g : Segment} {b : Band} (hband : g.band = some b) {column row : Nat} :
    (column, row) ∈ r.bandCells g ↔ column < r.columns ∧ row < r.rows ∧ b.col0 ≤ column ∧ (column : Int) ≤ b.col1 ∧
      b.row0 ≤ row ∧ (row : Int) ≤ b.row1 := by
  simp only [Recipe.bandCells, hband, Recipe.onGrid, mem_rowMajor, mem_span]
  tauto

theorem Recipe.nodup_bandCells (r : Recipe) (g : Segment) : (r.bandCells g).Nodup := by
  unfold Recipe.bandCells
  split
  · exact List.nodup_nil
  · exact nodup_rowMajor (List.nodup_range.filter _) (List.nodup_range.filter _)

/-! ### The deposit (R118-R120) -/

/-- Cells within the frame have places of their own. -/
theorem cellAt_inj {f : FrameId} {a b : Nat × Nat} (ha : a.1 < 64) (hb : b.1 < 64) :
    cellAt f a = cellAt f b ↔ a = b := by
  refine ⟨fun h => ?_, fun h => h ▸ rfl⟩
  simp only [cellAt] at h
  exact Prod.ext (by omega) (by omega)

theorem depositCell_lt {cls : CellClass} {old d : Nat} (hold : old < 65536) : depositCell cls old d < 65536 := by
  obtain h | h := depositCell_cases cls old d <;> omega

/-- A cell of a frame written with its deposit. -/
def Memory.depositAt (f : FrameId) (cls : Nat × Nat → CellClass) (d : Nat) (m : Memory) (cell : Nat × Nat) : Memory :=
  m.setCell f cell (depositCell (cls cell) (m.cell f cell) d)

section
variable {f : FrameId} {cls : Nat × Nat → CellClass} {d : Nat}

theorem Memory.wf_depositAt {m : Memory} (hm : m.wf) (cell : Nat × Nat) : (Memory.depositAt f cls d m cell).wf :=
  Memory.wf_writeBytes hm _ _

theorem Memory.foldDeposit_cell {cells : List (Nat × Nat)} (hcells : cells.Nodup) (hbound : ∀ c ∈ cells, c.1 < 64)
    {m : Memory} (hm : m.wf) {b : Nat × Nat} (hb : b.1 < 64) :
    (cells.foldl (Memory.depositAt f cls d) m).cell f b =
      if b ∈ cells then depositCell (cls b) (m.cell f b) d else m.cell f b := by
  induction cells generalizing m with
  | nil => rfl
  | cons c l ih =>
    obtain ⟨hfresh, hl⟩ := List.nodup_cons.mp hcells
    have hc : c.1 < 64 := hbound c List.mem_cons_self
    have hput : (Memory.depositAt f cls d m c).cell f b =
        if b = c then depositCell (cls c) (m.cell f c) d else m.cell f b := by
      rw [Memory.depositAt, Memory.cell_setCell hm f f c b (depositCell_lt (m.cell_lt f c))]
      simp only [cellAt_inj hb hc]
    rw [List.foldl_cons, ih hl (fun k hk => hbound k (List.mem_cons_of_mem c hk)) (Memory.wf_depositAt hm c), hput]
    by_cases hbc : b = c
    · subst hbc
      rw [if_neg hfresh, if_pos rfl, if_pos List.mem_cons_self]
    · simp only [List.mem_cons, hbc, false_or, if_false]

theorem Memory.foldDeposit_read {cells : List (Nat × Nat)} (hbound : ∀ c ∈ cells, c.1 < 64 ∧ c.2 < 48) {m : Memory}
    (hm : m.wf) {o : Nat} (ho : o < 0x14000 + 6144 * f.val ∨ 0x14000 + 6144 * f.val + 6144 ≤ o) :
    (cells.foldl (Memory.depositAt f cls d) m).read o = m.read o := by
  induction cells generalizing m with
  | nil => rfl
  | cons c l ih =>
    obtain ⟨hcolumn, hrow⟩ := hbound c List.mem_cons_self
    rw [List.foldl_cons, ih (fun k hk => hbound k (List.mem_cons_of_mem c hk)) (Memory.wf_depositAt hm c)]
    refine Memory.read_writeBytes_outside hm ?_
    simp only [cellAt, length_le16]
    omega

end

theorem State.deposit_eq {n : Tag} {f : FrameId} (hframe : (s.record n).mapFrame = some f) (g : Segment)
    (a : ApplicatorId) (time sum count pre : Nat) : s.deposit n g a time sum count pre = { s with
      exchange := { s.exchange with
        mem := ((s.boardRecipe n).bandCells g).foldl
          (Memory.depositAt f ((s.boardRecipe n).effectiveClass (s.record n).maskResults)
            ((s.applicator a).increment g time sum count pre)) s.exchange.mem } } := by
  simp only [State.deposit, hframe]
  rfl

theorem effectivePressure_eq (sum count pre nominal : Nat) : effectivePressure sum count pre nominal =
    min (if count = 0 then pre else sum / count) (3 * nominal / 2) := by
  unfold effectivePressure
  by_cases h : count = 0
  · rw [if_pos h, if_neg (by omega)]
  · rw [if_neg h, if_pos (by omega)]

/-- Settles O39: the fold over the band's cells, each with a place of its own. -/
theorem depositsReachTheBand : Obligations.DepositsReachTheBand := by
  intro s n f g b a time sum count pre hcanonical hframe hband hcolumns hrows r x pressure d t
  have hd : x.increment g time sum count pre = d := by
    rw [Applicator.increment, effectivePressure_eq]
  have ht : t = { s with
      exchange := { s.exchange with
        mem := (r.bandCells g).foldl
          (Memory.depositAt f (r.effectiveClass (s.record n).maskResults) d) s.exchange.mem } } :=
    hd ▸ State.deposit_eq hframe g a time sum count pre
  have hbound : ∀ c ∈ r.bandCells g, c.1 < 64 ∧ c.2 < 48 := fun ⟨column, row⟩ hc => by
    obtain ⟨hcolumn, hrow, -⟩ := (Recipe.mem_bandCells hband).mp hc
    exact ⟨hcolumn.trans_le hcolumns, hrow.trans_le hrows⟩
  rw [ht]
  refine ⟨rfl, fun column row hcolumn hrow => ?_, fun o ho => Memory.foldDeposit_read hbound hcanonical ho⟩
  intro old here cls
  have hcell := Memory.foldDeposit_cell (f := f) (cls := r.effectiveClass (s.record n).maskResults) (d := d)
    (r.nodup_bandCells g) (fun c hc => (hbound c hc).1) hcanonical (b := (column, row)) hcolumn
  rw [hcell]
  have hhere : (column, row) ∈ r.bandCells g ↔ here := Recipe.mem_bandCells hband
  refine ⟨fun hin hmasked hkeep => ?_, fun hout => ?_⟩
  · rw [if_pos (hhere.mpr hin)]
    unfold depositCell
    split
    next h => exact absurd h hmasked
    next h => exact absurd h hkeep
    next => rfl
  · by_cases hin : here
    · rw [if_pos (hhere.mpr hin)]
      obtain hnot | hmasked | hkeep := hout
      · exact absurd hin hnot
      · simp only [depositCell, show r.effectiveClass (s.record n).maskResults (column, row) = .masked from hmasked]
        rfl
      · simp only [depositCell, show r.effectiveClass (s.record n).maskResults (column, row) = .keepOut from hkeep]
        rfl
    · rw [if_neg (mt hhere.mp hin)]

/-! ### The evaluation (R122, R123) -/

theorem Evaluation.add_eq (e : Evaluation) (cell : Nat × Nat) (j : Judgement) : e.add cell j =
    ⟨e.thin + if j = .thin then 1 else 0, e.thick + if j = .thick then 1 else 0,
      e.first.or (if j = .good then none else some cell)⟩ := by
  cases j <;> simp [Evaluation.add]

/-- The counts and the first failing cell of a run over cells. -/
theorem Evaluation.foldl_add (j : Nat × Nat → Judgement) (cells : List (Nat × Nat)) (e : Evaluation) :
    cells.foldl (fun e cell => e.add cell (j cell)) e =
      ⟨e.thin + (cells.filter fun cell => j cell == .thin).length,
        e.thick + (cells.filter fun cell => j cell == .thick).length,
        e.first.or (cells.find? fun cell => j cell != .good)⟩ := by
  induction cells generalizing e with
  | nil => simp
  | cons c l ih =>
    rw [List.foldl_cons, ih, Evaluation.add_eq]
    cases hj : j c <;> simp [hj, Nat.add_assoc, Nat.add_comm 1]

theorem judgeFilm_eq (wet solids lo hi : Nat) :
    (judgeFilm wet solids lo hi == .thin) = (wet != 4095 && decide (wet * solids / 100 < lo)) ∧
    (judgeFilm wet solids lo hi == .thick) = (wet == 4095 ||
      (decide (lo ≤ wet * solids / 100) && decide (hi < wet * solids / 100))) := by
  unfold judgeFilm
  by_cases hfull : wet = Config.maxFilm
  · have hwet : wet = 4095 := hfull
    simp [hwet, Config.maxFilm]
  · by_cases hlo : wet * solids / 100 < lo
    · simp [hfull, hlo, Nat.not_le.mpr hlo]
    · by_cases hhi : hi < wet * solids / 100 <;> simp [hfull, hlo, hhi, Nat.not_lt.mp hlo]

/-- THIN and COAT cells are judged against their windows (R122). -/
theorem Recipe.judgeCell_eq (r : Recipe) (cls : CellClass) (wet solids : Nat) :
    let lo := if cls = .thin then r.thinMin else r.coatMin
    let hi := if cls = .thin then r.thinMax else r.coatMax
    let judged : Bool := cls == .thin || cls == .coat
    let dry := wet * solids / 100
    (r.judgeCell cls wet solids == .thin) = (judged && wet != 4095 && decide (dry < lo)) ∧
      (r.judgeCell cls wet solids == .thick) =
        (judged && (wet == 4095 || (decide (lo ≤ dry) && decide (hi < dry)))) := by
  intro lo hi judged dry
  cases cls with
  | thin => exact judgeFilm_eq wet solids r.thinMin r.thinMax
  | coat => exact judgeFilm_eq wet solids r.coatMin r.coatMax
  | _ => exact ⟨rfl, rfl⟩

/-- Settles O40: the fold over the grid's cells, and the judgement of each. -/
theorem evaluationCountsTheFailingCells : Obligations.EvaluationCountsTheFailingCells := by
  intro s n f hframe r cells cls wet dry lo hi judged thin thick
  have hevaluation : s.evaluation n = cells.foldl (fun e cell => e.add cell (r.judgeCell (cls cell) (wet cell)
      (s.boardCoating n).solids)) ⟨0, 0, none⟩ := by
    rw [State.evaluation, hframe]
    rfl
  have hcells (cell : Nat × Nat) := r.judgeCell_eq (cls cell) (wet cell) (s.boardCoating n).solids
  have hthin (cell : Nat × Nat) : (r.judgeCell (cls cell) (wet cell) (s.boardCoating n).solids == .thin) = thin cell :=
    (hcells cell).1
  have hthick (cell : Nat × Nat) :
      (r.judgeCell (cls cell) (wet cell) (s.boardCoating n).solids == .thick) = thick cell := (hcells cell).2
  have hfails (cell : Nat × Nat) :
      (r.judgeCell (cls cell) (wet cell) (s.boardCoating n).solids != .good) = (thin cell || thick cell) := by
    rw [← hthin, ← hthick]
    cases r.judgeCell (cls cell) (wet cell) (s.boardCoating n).solids <;> rfl
  rw [hevaluation, Evaluation.foldl_add]
  simp only [hthin, hthick, hfails, Nat.zero_add, Option.none_or]
  exact ⟨trivial, trivial, trivial⟩

end Sys2Proof.Machine
end

section
/-! PROOFS. Flash-off, the entry gate, the oven and its exit (chapters 7 and 8). -/

namespace Sys2Proof.Machine

variable {s : State}

/-! ### The entry gate (R131) -/

theorem State.headReady_iff : s.headReady = true ↔
    ∃ p l i, s.tracker.flashOff = p :: l ∧ s.tracker.flash[p.tag] = some i ∧ i.done = true := by
  unfold State.headReady
  cases hlist : s.tracker.flashOff with
  | nil => simp [headTag]
  | cons p l =>
    rw [headTag_cons]
    dsimp only
    cases hitems : s.tracker.flash[p.tag] with
    | none =>
      refine ⟨fun h => Bool.noConfusion h, fun ⟨q, k, i, hq, hi, _⟩ => ?_⟩
      cases hq
      cases hitems.symm.trans hi
    | some i =>
      refine ⟨fun h => ⟨p, l, i, rfl, hitems, h⟩, fun ⟨q, k, j, hq, hj, hdone⟩ => ?_⟩
      cases hq
      cases hitems.symm.trans hj
      exact hdone

theorem State.gateCondition_iff : s.gateCondition = true ↔
    (∃ p l i, s.tracker.flashOff = p :: l ∧ s.tracker.flash[p.tag] = some i ∧ i.done = true) ∧
      s.cure.oven.length < 12 ∧ (∃ o, s.tables.oven = some o ∧ o.spacing ≤ s.cure.spacing) ∧
      s.tracker.cool.length < 3 ∧ (s.line.mode = .run ∨ s.line.mode = .freeze ∨ s.line.mode = .drain) ∧
      s.cure.ovenStop = false := by
  unfold State.gateCondition
  cases s.tables.oven with
  | none => simp
  | some o =>
    simp only [Bool.and_eq_true, decide_eq_true_eq, State.headReady_iff, LineMode.working_iff, Bool.not_eq_true',
      Config.ovenCapacity, and_assoc, Option.some.injEq, exists_eq_left']

theorem State.driveGate_eq : s.driveGate = { s with
    cure := { s.cure with gate := s.gateWanted }
    ports := { s.ports with
      oven := if s.gateWanted = s.cure.gate then s.ports.oven
        else s.ports.oven.issue (.entryGate s.gateWanted) } } := by
  unfold State.driveGate
  by_cases h : s.cure.gate = s.gateWanted
  · rw [if_pos (beq_iff_eq.mpr h), if_pos h.symm, ← h]
  · rw [if_neg (by simpa using h), if_neg (Ne.symm h)]
    rfl

/-- Settles O41, by the equation of a re-examination. -/
theorem entryGateFollowsItsConditions : Obligations.EntryGateFollowsItsConditions := by
  intro s t
  have ht : t = _ := State.driveGate_eq
  rw [ht]
  exact ⟨State.gateWanted_opened.trans State.gateCondition_iff, rfl, rfl⟩

/-! ### Deadlines (R127, R128, R141, R164) -/

theorem BoardRecord.addReason_twice (r : Reason) (b : BoardRecord) :
    (b.addReason r).addReason r = b.addReason r := by
  simp only [BoardRecord.addReason]
  rw [BitVec.or_assoc, BitVec.or_self]

/-- A reason added to the boards of a list, each once or more often. -/
theorem foldAddReason_record (r : Reason) (l : List Tag) (s : State) (m : Tag) :
    (l.foldl (fun u n => u.modifyRecord n (BoardRecord.addReason r)) s).record m =
      if m ∈ l then (s.record m).addReason r else s.record m := by
  induction l generalizing s with
  | nil => rfl
  | cons n l ih =>
    rw [List.foldl_cons, ih, State.record_modifyRecord]
    by_cases hm : m = n
    · subst hm
      rw [if_pos rfl, if_pos List.mem_cons_self, BoardRecord.addReason_twice, ite_self]
    · simp only [List.mem_cons, hm, false_or, if_false]

theorem foldModifyRecord_eq (f : Tag → BoardRecord → BoardRecord) (l : List Tag) (s : State) :
    let t := l.foldl (fun u n => u.modifyRecord n (f n)) s
    t = { s with tracker := { s.tracker with boards := t.tracker.boards } } := by
  induction l generalizing s with
  | nil => rfl
  | cons n l ih => exact ih (s.modifyRecord n (f n))

theorem State.append_eq (e : Activity) : s.append e = { s with exchange := (s.append e).exchange } := by
  unfold State.append
  split <;> rfl

/-- Settles O42: each deadline acts where it has been reached. -/
theorem reachedDeadlinesAct : Obligations.ReachedDeadlinesAct := by
  intro s n hrun past items put
  have hearly {d : Time} (h : ¬past d) : reached d s.lineTime = false := reached_eq_false_iff.mpr (Nat.not_lt.mp h)
  refine ⟨fun i d hitems hd => ?flash, fun i d hitems hd => ?openTime, fun d hd => ?recoat, fun d hd => ?silence⟩
  case flash =>
    intro u
    have hexec : exec (.flashOffDeadlineExpiry n) s = .next (if reached d s.lineTime then
        (if headTag s.tracker.flashOff = some n then u.driveGate else u) else s) := by
      refine congrArg Host.Outcome.next ((State.live_running hrun _).trans ?_)
      simp only [hitems, hd, expired]
      rfl
    refine ⟨fun hnot => ?_, fun hpast ⟨p, l, hlist, hp⟩ => ?_, fun hpast hother => ?_⟩
    · rw [hexec, hearly hnot]
      rfl
    · rw [hexec, if_pos (reached_iff.mpr hpast), hlist, headTag_cons, if_pos (congrArg some hp)]
    · rw [hexec, if_pos (reached_iff.mpr hpast), if_neg]
      cases hlist : s.tracker.flashOff with
      | nil => exact fun h => by cases h
      | cons p l => exact fun h => hother p l hlist (Option.some.inj h)
  case openTime =>
    have hexec : exec (.openTimeDeadlineExpiry n) s = .next (if reached d s.lineTime then
        put (items { i with openDeadline := none }) { s.record n with reasons := (s.record n).reasons ||| 32 }
        else s) := by
      refine congrArg Host.Outcome.next ((State.live_running hrun _).trans ?_)
      simp only [hitems, hd, expired]
      rfl
    refine ⟨fun hnot => ?_, fun hpast => ?_⟩
    · rw [hexec, hearly hnot]
      rfl
    · rw [hexec, if_pos (reached_iff.mpr hpast)]
  case recoat =>
    have hexec : exec (.recoatExpired n) s = .next (if ((s.record n).valid && (s.record n).recoatOpen &&
        reached d s.lineTime) = true then (put s { s.record n with recoatOpen := false }).append
          (.recoatExpired n (s.record n).serial) else s) := by
      have hdeadline : expired (s.record n).recoatDeadline s.lineTime = reached d s.lineTime := by rw [hd]; rfl
      rw [← hdeadline]
      exact congrArg Host.Outcome.next (State.live_running hrun _)
    refine ⟨fun hvalid hopen hpast => ?_, fun hnot => ?_⟩
    · rw [hexec, hvalid, hopen, reached_iff.mpr hpast]
      rfl
    · rw [hexec, if_neg]
      obtain h | h | h := hnot
      · simp [h]
      · simp [h]
      · simp [hearly h]
  case silence =>
    obtain ⟨quiet, hquiet⟩ : ∃ quiet : State, quiet = s.cure.oven.foldl
        (fun u m => u.modifyRecord m (BoardRecord.addReason .cureUnverified))
        ({ s with cure := { s.cure with sampling := .silent, silence := none } } : State) := ⟨_, rfl⟩
    have hexec : exec .ovenSilent s = .next (if (s.cure.sampling == .receiving && reached d s.lineTime) = true then
        quiet.append (.ovenSilent s.cure.oven.length) else s) := by
      refine congrArg Host.Outcome.next ((State.live_running hrun _).trans ?_)
      simp only [hd, expired, hquiet]
      rfl
    have hrecord (m : Tag) : quiet.record m =
        if m ∈ s.cure.oven then (s.record m).addReason .cureUnverified else s.record m := by
      rw [hquiet, foldAddReason_record]
      rfl
    obtain ⟨boards, hkept⟩ : ∃ boards, quiet = { s with
        cure := { s.cure with sampling := .silent, silence := none }
        tracker := { s.tracker with boards := boards } } :=
      ⟨_, hquiet ▸ foldModifyRecord_eq (fun _ => BoardRecord.addReason .cureUnverified) s.cure.oven _⟩
    refine ⟨fun hnot => ?_, fun hreceiving hpast => ?_⟩
    · rw [hexec, if_neg]
      obtain h | h := hnot
      · simp [h]
      · simp [hearly h]
    · have hacts : exec .ovenSilent s = .next (quiet.append (.ovenSilent s.cure.oven.length)) := by
        rw [hexec, hreceiving, reached_iff.mpr hpast]
        rfl
      clear hquiet hexec
      subst hkept
      refine ⟨_, hacts, ?_, ?_, fun m => ?_, ?_⟩
      · simp only [State.append_keeps]
      · refine State.append_exchange_congr ?_ ?_ _ <;> rfl
      · rw [State.append_record]
        exact hrecord m
      · rw [State.append_eq]

/-! ### Oven entry (R133, R134) -/

theorem exec_entrySeen (h : s.idlePort .oven) : exec .entrySeen s = .next s.takeEntrySeen :=
  congrArg Host.Outcome.next (State.receiveFrame_idle h _ _)

theorem exec_exitSeen (h : s.idlePort .oven) : exec .exitSeen s = .next s.takeExitSeen :=
  congrArg Host.Outcome.next (State.receiveFrame_idle h _ _)

/-- The head of the flash-off list in the oven, with the gate CLOSED behind it, ahead of its entry. -/
def State.inOven (n : Tag) (s : State) : State :=
  (((s.mapTracker fun k => { k with flashOff := k.flashOff.tail, flash := k.flash.set n none }).modifyRecord n
    (BoardRecord.enterOven s.lineTime s.cure.sampling)).mapCure fun c =>
      { c with oven := c.oven ++ [n], spacing := 0, gate := .closed }).send (.entryGate .closed)

theorem State.enterOven_eq (n : Tag) :
    s.enterOven n = ((s.inOven n).append (.ovenEntered n (s.cure.oven.length + 1))).driveGate := rfl

theorem BoardRecord.enterOven_eq (now : Time) (sampling : Sampling) (b : BoardRecord) :
    b.enterOven now sampling = { b with
      stage := .curing, ovenEntry := some now, position := 0, dose := 0
      reasons := b.reasons ||| (if sampling = .silent then 512 else 0) } := by
  have hmask : Reason.cureUnverified.mask = 512 := rfl
  cases sampling <;> simp [BoardRecord.enterOven, BoardRecord.addReasonIf, BoardRecord.addReason, hmask]

theorem State.reexamined_keeps (e : Activity) : (s.append e).driveGate.cure = { s.cure with
      gate := (s.append e).driveGate.gateWanted } ∧
    (s.append e).driveGate.exchange = (s.append e).exchange ∧ (s.append e).driveGate.tracker = s.tracker ∧
    (s.append e).driveGate.sequencer = s.sequencer ∧ (s.append e).driveGate.holds = s.holds ∧
    (s.append e).driveGate.coverage = s.coverage ∧ (s.append e).driveGate.verifier = s.verifier ∧
    (s.append e).driveGate.line = s.line ∧ (s.append e).driveGate.tables = s.tables := by
  rw [State.driveGate_reexamined]
  simp

/-- Settles O43: the gate and the flash-off head decide. -/
theorem entriesPassTheOpenGate : Obligations.EntriesPassTheOpenGate := by
  intro s hidle
  refine ⟨fun p l hgate hlist => ?opened, fun hgate => ⟨fun p l hlist => ?_, fun hnone => ?_⟩⟩
  case opened =>
    intro n
    have htaken : exec .entrySeen s = .next (s.enterOven n) := by
      rw [exec_entrySeen hidle, State.takeEntrySeen, hgate, hlist, headTag_cons]
    obtain ⟨hcure, hexchange, htracker, hsequencer, hholds, hcoverage, hverifier, hline, htables⟩ :=
      State.reexamined_keeps (s := s.inOven n) (.ovenEntered n (s.cure.oven.length + 1))
    rw [← State.enterOven_eq] at hcure hexchange htracker hsequencer hholds hcoverage hverifier hline htables
    refine ⟨s.enterOven n, htaken, ?_, ?_, hcure, ?_, ?_, ?_, hsequencer, hholds, hcoverage, hverifier, hline, htables,
      ?_⟩
    · rw [htracker]
      exact congrArg List.tail hlist
    · rw [htracker]
      rfl
    · rw [htracker]
      exact congrArg (s.tracker.boards.set n) (BoardRecord.enterOven_eq ..)
    · rw [hexchange]
      refine State.append_exchange_congr ?_ ?_ _ <;> rfl
    · have hwanted : (s.enterOven n).gateWanted =
          ((s.inOven n).append (.ovenEntered n (s.cure.oven.length + 1))).gateWanted := by
        rw [State.enterOven_eq, State.driveGate_gateWanted]
      have hports : (s.inOven n).ports =
          { s.ports with oven := s.ports.oven.issue (.entryGate .closed) } := rfl
      have hclosed : (s.inOven n).cure.gate = .closed := rfl
      rw [hwanted, State.enterOven_eq, State.driveGate_eq]
      simp only [State.append_keeps, hports, hclosed]
      cases ((s.inOven n).append (.ovenEntered n (s.cure.oven.length + 1))).gateWanted <;> rfl
    · rw [htracker]
      rfl
  · rw [exec_entrySeen hidle, State.takeEntrySeen, hgate, hlist, headTag_cons]
  · rw [exec_entrySeen hidle, State.takeEntrySeen, hgate, hnone]
    rfl

/-! ### Oven exit (R142-R146) -/

theorem OvenTable.total_eq (o : OvenTable) : (o.lengths.toList.take 6).sum = o.total := by
  rw [List.take_of_length_le (by simp)]
  rfl

theorem BoardRecord.judgeExit_eq (o : OvenTable) (c : Coating) (now : Time) (b : BoardRecord) :
    b.judgeExit o c now = { b with
      reasons := b.reasons ||| (if o.tolerance < distance b.position o.total then 1024 else 0) |||
        (if b.dose < c.doseMin then 64 else 0) ||| (if c.doseMax < b.dose then 128 else 0)
      ovenExit := some now
      recoatDeadline := some (now + word (60000 * c.recoatWindow))
      recoatOpen := true } := by
  have htracking : Reason.trackingMismatch.mask = 1024 := rfl
  have hunder : Reason.undercure.mask = 64 := rfl
  have hover : Reason.overcure.mask = 128 := rfl
  simp only [BoardRecord.judgeExit, BoardRecord.addReasonIf, BoardRecord.addReason, decide_eq_true_eq, htracking,
    hunder, hover]
  by_cases h : o.tolerance < distance b.position o.total <;> by_cases k : b.dose < c.doseMin <;>
    by_cases m : c.doseMax < b.dose <;> simp [h, k, m]

theorem State.append_modifyRecord (e : Activity) (n : Tag) (f : BoardRecord → BoardRecord) :
    (s.append e).modifyRecord n f = (s.modifyRecord n f).append e := by
  have hfull : (s.modifyRecord n f).listFull = s.listFull := rfl
  rw [State.modifyRecord, State.append_record]
  unfold State.append
  rw [hfull]
  split <;> rfl

theorem State.append_divert (e : Activity) : (s.append e).divert = s.divert.append e := by
  unfold State.divert
  simp only [State.append_keeps]
  cases headTag s.tracker.cool with
  | none => rfl
  | some n => exact State.append_modifyRecord ..

theorem State.divert_of_head {n : Tag} (h : headTag s.tracker.cool = some n) : s.divert = s.modifyRecord n fun b =>
    { b with verdict := if b.reasons = 0 then .pass else .hold } := by
  simp only [State.divert, h]

theorem State.raiseFault_mode (code : FaultCode) (route : Option Route) (tag : Option Tag) (cause : Nat) :
    (s.raiseFault code route tag cause).line.mode ≠ .drain := by
  unfold State.raiseFault
  dsimp only
  split
  · simp
  next hlater =>
    simp only [State.append_keeps]
    intro hdrain
    exact hlater (by rw [hdrain]; rfl)

theorem State.reportEmpty_of_mode (h : s.line.mode ≠ .drain) : s.reportEmpty = s :=
  if_neg fun hdrain => h hdrain.1

/-- The board that leaves the oven, judged (R143). -/
def State.outOfOven (n : Tag) (l : List Tag) (s : State) : State :=
  (s.mapCure fun c => { c with oven := l }).modifyRecord n
    (BoardRecord.judgeExit s.oven (s.boardCoating n) s.lineTime)

theorem State.takeExitSeen_head {n : Tag} {l : List Tag} (h : s.cure.oven = n :: l) : s.takeExitSeen =
    if s.tracker.cool.length < 3 then (s.outOfOven n l).exitToCool n else (s.outOfOven n l).exitOverrun n := by
  simp only [State.takeExitSeen, h]
  rfl

/-- A board that joins the cool list, as its record and the list then stand (R144, R151). -/
def State.inCool (n : Tag) (s : State) : State :=
  (s.mapTracker fun k => { k with cool := joinTail k.cool n }).modifyRecord n fun b => { b with
    stage := .cooling
    verdict := if s.tracker.cool ≠ [] then b.verdict else if b.reasons = 0 then .pass else .hold }

theorem State.modifyRecord_modifyRecord (n : Tag) (f g : BoardRecord → BoardRecord) :
    (s.modifyRecord n f).modifyRecord n g = s.modifyRecord n fun b => g (f b) := by
  rw [State.modifyRecord, State.modifyRecord_same]
  simp only [State.modifyRecord, State.setRecord, Vector.set_set]

theorem State.modifyRecord_congr {n : Tag} {f g : BoardRecord → BoardRecord} (h : f (s.record n) = g (s.record n)) :
    s.modifyRecord n f = s.modifyRecord n g :=
  congrArg (s.setRecord n) h

/-- The head of the cool list takes its verdict, and a board behind it keeps its own. -/
theorem State.divertFirst_eq (n : Tag) :
    let u := (s.mapTracker fun k => { k with cool := joinTail k.cool n }).modifyRecord n fun b =>
      { b with stage := .cooling }
    (if s.tracker.cool.isEmpty then u.divert else u) = s.inCool n := by
  intro u
  cases hcool : s.tracker.cool with
  | nil =>
    have hhead : headTag u.tracker.cool = some n := congrArg (fun l => headTag (joinTail l n)) hcool
    rw [List.isEmpty_nil, if_pos rfl, State.divert_of_head hhead, State.modifyRecord_modifyRecord]
    refine State.modifyRecord_congr ?_
    simp [hcool]
  | cons p l =>
    refine (if_neg Bool.false_ne_true).trans (State.modifyRecord_congr ?_)
    simp [hcool]

theorem State.exitToCool_eq (n : Tag) : s.exitToCool n = ((s.inCool n).append
    (.ovenExited n (s.record n).dose (s.record n).position (s.tracker.cool.length + 1))).driveGate := by
  rw [State.exitToCool, ← State.divertFirst_eq]
  split
  · rw [State.append_divert]
  · rfl

/-- Oven stop asserted: the gate is CLOSED, and every board in the oven gains OVEN_STOPPED (R146). -/
theorem State.assertStop_stops : ∃ boards : Vector BoardRecord 32, s.assertStop = { s with
      cure := { s.cure with ovenStop := true, gate := .closed }
      ports := { s.ports with
        oven :=
          let stop := if s.cure.ovenStop then s.ports.oven else s.ports.oven.issue (.ovenStop true)
          if s.cure.gate = .closed then stop else stop.issue (.entryGate .closed) }
      tracker := { s.tracker with boards := boards } } ∧
    ∀ m : Tag, boards[m] =
      if m ∈ s.cure.oven then (s.record m).addReason .ovenStopped else s.record m := by
  obtain ⟨v, hv⟩ : ∃ v : State, v = { s with
      cure := { s.cure with ovenStop := true }
      ports := { s.ports with
        oven := if s.cure.ovenStop then s.ports.oven else s.ports.oven.issue (.ovenStop true) } } := ⟨_, rfl⟩
  have hstop : (if s.cure.ovenStop then s
      else (s.mapCure fun c => { c with ovenStop := true }).send (.ovenStop true)) = v := by
    rw [hv]
    cases h : s.cure.ovenStop with
    | false => rfl
    | true =>
      have hcure : { s.cure with ovenStop := true } = s.cure := by rw [← h]
      rw [if_pos rfl, hcure]
      rfl
  obtain ⟨w, hw⟩ : ∃ w : State, w = s.cure.oven.foldl
    (fun u n => u.modifyRecord n (BoardRecord.addReason .ovenStopped)) v := ⟨_, rfl⟩
  have hkept : w = { v with tracker := { v.tracker with boards := w.tracker.boards } } :=
    hw ▸ foldModifyRecord_eq (fun _ => BoardRecord.addReason .ovenStopped) s.cure.oven v
  have hrecord (m : Tag) : w.tracker.boards[m] =
      if m ∈ s.cure.oven then (s.record m).addReason .ovenStopped else s.record m := by
    have hs : v.record m = s.record m := by rw [hv]; rfl
    rw [← hs, ← foldAddReason_record, ← hw]
    rfl
  obtain ⟨boards, hboards⟩ : ∃ boards, boards = w.tracker.boards := ⟨_, rfl⟩
  rw [← hboards] at hkept hrecord
  refine ⟨boards, ?_, hrecord⟩
  have hassert : s.assertStop = w.driveGate := by
    rw [State.assertStop, hstop, ← hw]
  have hclosed : w.gateWanted = .closed := by
    have hreleased : ¬ w.gateCondition = true := fun h => by
      obtain ⟨-, -, -, -, -, hoff⟩ := State.gateCondition_iff.mp h
      rw [hkept, hv] at hoff
      cases hoff
    exact if_neg hreleased
  rw [hassert, State.driveGate_eq, hclosed, hkept, hv]
  simp only [eq_comm (a := GateState.closed)]

/-- The record of a board that leaves the oven, as its judgement leaves it (R143). -/
theorem State.outOfOven_eq (n : Tag) (l : List Tag) : s.outOfOven n l =
    ({ s with cure := { s.cure with oven := l } } : State).setRecord n ((s.record n).judgeExit s.oven (s.boardCoating n)
      s.lineTime) := rfl

/-- The overrun's board, HELD, with oven stop asserted and its entries appended, ahead of the fault (R145). -/
def State.overrun (n : Tag) (s : State) : State :=
  let held := s.modifyRecord n fun b => (b.addReason .exitOverrun).hold .none s.lineTime
  ((held.assertStop.append (.ovenExited n (s.record n).dose (s.record n).position 3)).joinHolds n).append
    (.boardHeld n .none (held.record n).reasons)

theorem State.exitOverrun_eq (n : Tag) :
    s.exitOverrun n = (s.overrun n).raiseFault .exitOverrun none (some n) 1 :=
  State.reportEmpty_of_mode (State.raiseFault_mode _ _ _ _)

/-- What an overrun does: OVEN_STOPPED for the boards in the oven, the board in the hold order, its two entries. -/
theorem State.overrun_spec {n : Tag} (hn : n ∉ s.cure.oven) :
    let u := s.overrun n
    let held := ((s.record n).addReason .exitOverrun).hold .none s.lineTime
    u.cure = { s.cure with ovenStop := true, gate := .closed } ∧
    (∀ m : Tag, u.record m = if m = n then held
      else if m ∈ s.cure.oven then (s.record m).addReason .ovenStopped else s.record m) ∧
    n ∈ u.holdOrder ∧ s.joinsHolds u n s.lineTime ∧ u.holds.slots = s.holds.slots ∧
    (let stop := if s.cure.ovenStop then s.ports.oven else s.ports.oven.issue (.ovenStop true)
     u.ports = { s.ports with
        oven := if s.cure.gate = .closed then stop else stop.issue (.entryGate .closed) }) ∧
    u.exchange = ((s.append (.ovenExited n (s.record n).dose (s.record n).position 3)).append
      (.boardHeld n .none held.reasons)).exchange ∧
    u = { s with
      cure := u.cure
      exchange := u.exchange
      ports := u.ports
      holds := u.holds
      tracker := { s.tracker with boards := u.tracker.boards } } := by
  intro u held
  obtain ⟨h, hh⟩ : ∃ h : State, h = s.modifyRecord n fun b => (b.addReason .exitOverrun).hold .none s.lineTime :=
    ⟨_, rfl⟩
  have hhrecord (m : Tag) : h.record m = if m = n then held else s.record m := by
    rw [hh, State.record_modifyRecord]
  have hhcure : h.cure = s.cure := by rw [hh]; rfl
  have hu : u = ((h.assertStop.append (.ovenExited n (s.record n).dose (s.record n).position 3)).joinHolds n).append
      (.boardHeld n .none held.reasons) := by
    have hreasons : held.reasons = (h.record n).reasons := by rw [hhrecord, if_pos rfl]
    rw [hreasons, hh]
    rfl
  obtain ⟨boards, hstop, hboards⟩ := h.assertStop_stops
  rw [hhcure] at hstop hboards
  have hurecord (m : Tag) : u.record m = if m = n then held
      else if m ∈ s.cure.oven then (s.record m).addReason .ovenStopped else s.record m := by
    have hafter : u.record m = boards[m] := by
      have hstopped : h.assertStop.record m = boards[m] := by rw [hstop]; rfl
      rw [hu, State.append_record, ← hstopped]
      exact State.append_record (s := h.assertStop) _ m
    rw [hafter, hboards, hhrecord]
    by_cases hm : m = n
    · subst hm
      rw [if_neg hn, if_pos rfl, if_pos rfl]
    · simp only [if_neg hm]
  have hjoins : s.joinsHolds (h.assertStop.joinHolds n) n s.lineTime := by
    have hrecord (m : Tag) : h.assertStop.record m = boards[m] := by rw [hstop]; rfl
    refine State.joinHolds_joins (n := n) ⟨?_, ?_⟩ ?_ fun m hm => ?_
    · simp [hh]
    · simp [hh]
    · rw [hrecord, hboards, if_neg hn, hhrecord, if_pos rfl]
      rfl
    · rw [hrecord, hboards, hhrecord, if_neg hm]
      split <;> rfl
  have hholds : u.holds = (h.assertStop.joinHolds n).holds := by
    simp only [hu, State.append_keeps, State.joinHolds, State.append_record]
  have hslots : h.assertStop.holds = s.holds := by simp [hh]
  refine ⟨?_, hurecord, ?_, ?_, ?_, ?_, ?_, ?_⟩
  · simp only [hu, State.append_keeps, State.joinHolds_keeps, hstop]
  · rw [State.holdOrder, hholds]
    exact List.mem_append_right _ (mem_joinOrder ..)
  · exact hjoins.congr rfl (fun _ => rfl) hholds
  · rw [hholds, State.joinHolds, hslots]
  · simp only [hu, State.append_keeps, State.joinHolds_keeps, hstop]
    rw [hh]
    simp only [State.modifyRecord_keeps]
  · rw [hu]
    refine State.append_exchange_congr ?_ ?_ _
    · simp only [State.joinHolds_keeps]
      refine State.append_exchange_congr ?_ ?_ _ <;> simp [hh]
    · simp [hh]
  · obtain ⟨first, hfirst⟩ : ∃ x, h.assertStop.append (.ovenExited n (s.record n).dose (s.record n).position 3) =
        { h.assertStop with exchange := x } := ⟨_, State.append_eq _⟩
    obtain ⟨x, hx⟩ : ∃ x, u = { h.assertStop.joinHolds n with exchange := x, holds := u.holds } := by
      rw [hu, hfirst, State.append_eq]
      exact ⟨_, rfl⟩
    rw [hx, State.joinHolds, hstop, hh]
    rfl

theorem State.joinsHolds.of_heldTime {t u : State} {n : Tag} {time : Time} (h : t.joinsHolds u n time)
    (hholds : t.holds = s.holds) (htime : ∀ m, (t.record m).heldTime = (s.record m).heldTime) :
    s.joinsHolds u n time := by
  obtain ⟨hkept, horder⟩ := h
  simp only [hholds, htime] at hkept horder
  exact ⟨hkept, horder⟩

/-- Settles O45, by the state after the exit. -/
theorem exitsJudgeTheHeadBoard : Obligations.ExitsJudgeTheHeadBoard := by
  intro s hidle
  refine ⟨fun hnone => ?_, fun n l hoven hnew => ?_⟩
  · rw [exec_exitSeen hidle, State.takeExitSeen, hnone]
  intro b c off why judged
  have hjudged : (s.record n).judgeExit s.oven (s.boardCoating n) s.lineTime = judged := by
    rw [BoardRecord.judgeExit_eq, ← OvenTable.total_eq]
    rfl
  obtain ⟨o, ho⟩ : ∃ o, o = s.outOfOven n l := ⟨_, rfl⟩
  have hout : o = ({ s with cure := { s.cure with oven := l } } : State).setRecord n judged := by
    rw [ho, State.outOfOven_eq, hjudged]
  have hrecord (m : Tag) : o.record m = if m = n then judged else s.record m := by
    rw [hout, State.record_setRecord]
    rfl
  have hown : o.record n = judged := (hrecord n).trans (if_pos rfl)
  have hexec : exec .exitSeen s =
      .next (if s.tracker.cool.length < 3 then o.exitToCool n else o.exitOverrun n) := by
    rw [exec_exitSeen hidle, State.takeExitSeen_head hoven, ho]
  have hcures : o.cure = { s.cure with oven := l } := by rw [hout]; rfl
  have hkeeps : o.ports = s.ports ∧ o.holds = s.holds ∧ o.exchange = s.exchange ∧ o.lineTime = s.lineTime := by
    rw [hout]
    exact ⟨rfl, rfl, rfl, rfl⟩
  obtain ⟨hsamePorts, hsameHolds, hsameExchange, hsameTime⟩ := hkeeps
  refine ⟨fun hroom => ?cool, fun hfull => ?overrun⟩
  case cool =>
    obtain ⟨e, he⟩ : ∃ e : Activity, e = .ovenExited n b.dose b.position (s.tracker.cool.length + 1) := ⟨_, rfl⟩
    have hcool : o.tracker.cool = s.tracker.cool := by rw [hout]; rfl
    have hexit : o.exitToCool n = ((o.inCool n).append e).driveGate := by
      rw [State.exitToCool_eq, hown, hcool, he]
    rw [if_pos hroom, hexit] at hexec
    obtain ⟨hcure, hexchange, htracker, -⟩ := State.reexamined_keeps (s := o.inCool n) e
    have hin : o.inCool n = { s with
        cure := { s.cure with oven := l }
        tracker := { s.tracker with
          cool := s.tracker.cool ++ [⟨n, false⟩]
          boards := s.tracker.boards.set n { judged with
            stage := .cooling
            verdict := if s.tracker.cool ≠ [] then b.verdict else if why = 0 then .pass else .hold } } } := by
      have hsame : (o.mapTracker fun k => { k with cool := joinTail k.cool n }).record n = judged := hown
      have hboards : o.tracker.boards = s.tracker.boards.set n judged := by rw [hout]; rfl
      rw [State.inCool, State.modifyRecord, hsame, hcool, State.setRecord, State.mapTracker, hboards, hcool,
        Vector.set_set, hout]
      rfl
    have hgate : ((o.inCool n).append e).driveGate.gateWanted = ((o.inCool n).append e).gateWanted :=
      State.driveGate_gateWanted
    refine ⟨_, hexec, ?_, ?_, ?_, ?_⟩
    · rw [hcure, hin]
    · rw [htracker, hin]
    · rw [hexchange, hin, ← he]
      refine State.append_exchange_congr ?_ ?_ _ <;> rfl
    · rw [State.driveGate_eq, State.append_eq, hin]
  case overrun =>
    intro held
    rw [if_neg (Nat.not_lt.mpr hfull), State.exitOverrun_eq] at hexec
    obtain ⟨hcure, hboards, hmem, hjoins, hslots, hports, hexchange, hkept⟩ :=
      State.overrun_spec (s := o) (n := n) (by rw [hcures]; exact hnew)
    have hheld : ((o.record n).addReason .exitOverrun).hold .none o.lineTime = held := by
      rw [hown, hsameTime]
      rfl
    rw [hcures] at hcure hboards
    rw [hheld] at hboards hexchange
    refine ⟨o.overrun n, hexec, hcure, fun m => ?_, hmem, ?_, hslots.trans (by rw [hsameHolds]), ?_, ?_, ?_⟩
    · rw [hboards]
      by_cases hm : m = n
      · rw [if_pos hm, if_pos hm]
      · rw [if_neg hm, if_neg hm, hrecord, if_neg hm]
        rfl
    · rw [hsameTime] at hjoins
      refine hjoins.of_heldTime hsameHolds fun m => ?_
      rw [hrecord]
      by_cases hm : m = n
      · rw [if_pos hm, hm]
      · rw [if_neg hm]
    · intro stop
      rw [hports, hcures, hsamePorts]
    · rw [hexchange, hown]
      refine State.append_exchange_congr ?_ ?_ _
      · refine State.append_exchange_congr hsameExchange hsameTime _
      · simp only [State.append_keeps, hsameTime]
    · generalize o.overrun n = u at hkept
      refine hkept.trans ?_
      rw [hout]
      rfl

/-! ### Oven samples (R138-R140) -/

theorem runningSums_eq (l : List Nat) (done : List Nat) (n : Nat) :
    (l.foldl (fun p x => (p.1 ++ [p.2 + x], p.2 + x)) (done, n)).1 =
      done ++ (List.range l.length).map fun k => n + (l.take (k + 1)).sum := by
  induction l generalizing done n with
  | nil => simp
  | cons x l ih => simp [ih, List.range_succ_eq_map, Nat.add_assoc]

theorem State.ends_getD (z : Fin 6) : s.oven.ends.getD z.val 0 = s.zoneEnd (z.val + 1) := by
  rw [OvenTable.ends, runningSums_eq]
  simp [State.zoneEnd]

theorem State.zoneEnd_mono {j k : Nat} (h : j ≤ k) : s.zoneEnd j ≤ s.zoneEnd k := by
  have hsplit := List.sum_take_add_sum_drop (s.oven.lengths.toList.take k) j
  rw [List.take_take, Nat.min_eq_left h] at hsplit
  exact Nat.le.intro hsplit

theorem State.zoneOf_eq_some {z : Fin 6} {position : Nat} (hend : position < s.zoneEnd (z.val + 1))
    (hstart : s.zoneEnd z.val ≤ position) : s.oven.zoneOf position = some z := by
  refine find?_lowest (by decide) (List.mem_finRange z) ?_ fun m hm _ => ?_
  · rw [State.ends_getD]
    exact decide_eq_true hend
  · rw [State.ends_getD]
    exact decide_eq_false (Nat.not_lt.mpr ((State.zoneEnd_mono hm).trans hstart))

theorem State.zoneOf_eq_none {position : Nat} (h : s.zoneEnd 6 ≤ position) : s.oven.zoneOf position = none := by
  refine List.find?_eq_none.mpr fun z _ => ?_
  rw [State.ends_getD, decide_eq_true_eq]
  exact Nat.not_lt.mpr ((State.zoneEnd_mono (by omega)).trans h)

theorem Coating.weight_of_weighs {c : Coating} {temperature w : Nat} (h : c.weighs temperature w) :
    c.weight temperature = w := by
  unfold Coating.weight
  obtain ⟨k, hk, hlower, rfl⟩ | ⟨hnone, rfl⟩ := h
  · have hfound : c.bands.toList.find? (fun b => decide (temperature ≤ b.bound)) = some c.bands[k] := by
      refine List.find?_eq_some_iff_getElem.mpr ⟨decide_eq_true hk, k.val, by simp, by simp, fun j hj => ?_⟩
      have := hlower ⟨j, hj.trans k.isLt⟩ hj
      simpa using this
    rw [hfound]
  · have hfound : c.bands.toList.find? (fun b => decide (temperature ≤ b.bound)) = none := by
      refine List.find?_eq_none.mpr fun b hb => ?_
      obtain ⟨j, hj, rfl⟩ := List.getElem_of_mem hb
      have := hnone ⟨j, by simpa using hj⟩
      simpa using this
    rw [hfound]

theorem foldAppend_exchange_congr {α : Type} (e : α → Activity) (l : List α) {t : State}
    (hexchange : t.exchange = s.exchange) (htime : t.lineTime = s.lineTime) :
    (l.foldl (fun u x => u.append (e x)) t).exchange = (l.foldl (fun u x => u.append (e x)) s).exchange := by
  induction l generalizing s t with
  | nil => exact hexchange
  | cons x l ih =>
    exact ih (State.append_exchange_congr hexchange htime _) (by simp only [State.append_keeps, htime])

section
variable (g : Fin 6 → Option Nat)

/-- A zone's value after its reading (R139). -/
def State.zoneAfter (z : Fin 6) (s : State) : ZoneValue := s.cure.zones[z].take (g z)

/-- A reading changes its zone's state (R139). -/
def State.zoneChanges (z : Fin 6) (s : State) : Bool := (s.zoneAfter g z).verified != s.cure.zones[z].verified

/-- The entry of a zone whose state changes (R139). -/
def State.zoneEntry (z : Fin 6) (s : State) : Activity :=
  .zoneState z (s.zoneAfter g z).verified (s.zoneAfter g z).value

theorem State.takeReading_eq (z : Fin 6) : s.takeReading z (g z) =
    let u : State := { s with cure := { s.cure with zones := s.cure.zones.set z (s.zoneAfter g z) } }
    if s.zoneChanges g z then u.append (s.zoneEntry g z) else u := by
  simp only [State.takeReading, State.zoneChanges, bne_iff_ne, ne_eq]
  by_cases h : (s.zoneAfter g z).verified = s.cure.zones[z].verified
  · rw [if_neg (not_not_intro h)]
    exact if_pos h
  · rw [if_pos h]
    exact if_neg h

/-- The zones as their readings leave them, with an entry for each whose state changes (R139). -/
theorem foldReadings_spec (l : List (Fin 6)) (hl : l.Nodup) (s : State) :
    let t := l.foldl (fun u z => u.takeReading z (g z)) s
    (∀ z, t.cure.zones[z] = if z ∈ l then s.zoneAfter g z else s.cure.zones[z]) ∧
    t.exchange = ((l.filter (s.zoneChanges g ·)).foldl (fun u z => u.append (s.zoneEntry g z)) s).exchange ∧
    t = { s with cure := { s.cure with zones := t.cure.zones }, exchange := t.exchange } := by
  induction l generalizing s with
  | nil => exact ⟨fun z => rfl, rfl, rfl⟩
  | cons x l ih =>
    intro t
    obtain ⟨hx, hrest⟩ := List.nodup_cons.mp hl
    obtain ⟨u, hu⟩ : ∃ u, u = s.takeReading x (g x) := ⟨_, rfl⟩
    have ht : l.foldl (fun u z => u.takeReading z (g z)) u = t := by rw [hu]; rfl
    have hu' := hu.trans (s.takeReading_eq g x)
    have hcure : u.cure = { s.cure with zones := s.cure.zones.set x (s.zoneAfter g x) } := by
      rw [hu']
      dsimp only
      split
      · simp only [State.append_keeps]
      · rfl
    have hkept : u = { s with cure := u.cure, exchange := u.exchange } := by
      rw [hu']
      dsimp only
      split
      · rw [State.append_eq]
      · rfl
    have hzone (z : Fin 6) : u.cure.zones[z] = if z = x then s.zoneAfter g x else s.cure.zones[z] := by
      rw [hcure]
      exact Vector.getElem_set_fin ..
    have hother {z : Fin 6} (hz : z ∈ l) : u.cure.zones[z] = s.cure.zones[z] := by
      rw [hzone, if_neg fun h : z = x => hx (h ▸ hz)]
    have hafter {z : Fin 6} (hz : z ∈ l) : u.zoneAfter g z = s.zoneAfter g z := by
      rw [State.zoneAfter, hother hz]
      rfl
    have hchanges {z : Fin 6} (hz : z ∈ l) : u.zoneChanges g z = s.zoneChanges g z := by
      rw [State.zoneChanges, hafter hz, hother hz]
      rfl
    have hentry {z : Fin 6} (hz : z ∈ l) : u.zoneEntry g z = s.zoneEntry g z := by
      rw [State.zoneEntry, hafter hz]
      rfl
    obtain ⟨hzones, hexchange, hstate⟩ := ih hrest u
    rw [ht] at hzones hexchange hstate
    refine ⟨fun z => ?_, ?_, ?_⟩
    · rw [hzones]
      by_cases hz : z ∈ l
      · rw [if_pos hz, if_pos (List.mem_cons_of_mem x hz), hafter hz]
      · rw [if_neg hz, hzone]
        simp only [List.mem_cons, hz, or_false]
        by_cases hzx : z = x
        · rw [if_pos hzx, if_pos hzx, hzx]
        · rw [if_neg hzx, if_neg hzx]
    · rw [hexchange, List.filter_congr fun z hz => hchanges hz,
        List.foldl_ext _ (fun v z => v.append (s.zoneEntry g z)) u fun v z hz => by
          rw [hentry (List.mem_filter.mp hz).1], List.filter_cons, hu']
      dsimp only
      by_cases hchanged : s.zoneChanges g x = true
      · rw [if_pos hchanged, if_pos hchanged, List.foldl_cons]
        refine foldAppend_exchange_congr (s.zoneEntry g) _ ?_ ?_
        · refine State.append_exchange_congr ?_ ?_ _ <;> rfl
        · simp only [State.append_keeps]
      · rw [if_neg hchanged, if_neg hchanged]
        refine foldAppend_exchange_congr (s.zoneEntry g) _ ?_ ?_ <;> rfl
    · rw [hstate, hkept, hcure]

end

theorem State.boardCoating_congr {t : State} {n : Tag} (h : t.record n = s.record n) (htables : t.tables = s.tables) :
    t.boardCoating n = s.boardCoating n := by
  unfold State.boardCoating State.boardRecipe State.coating State.recipe
  rw [h, htables]

/-- The boards of a list without repeats, each advanced and dosed by one sample (R140). -/
theorem foldSample_record (d : Nat) (l : List Tag) (hl : l.Nodup) (s : State) (m : Tag) :
    (l.foldl (fun u n => u.modifyRecord n (BoardRecord.sample u.oven (u.boardCoating n) u.cure.zones d)) s).record m =
      if m ∈ l then (s.record m).sample s.oven (s.boardCoating m) s.cure.zones d else s.record m := by
  induction l generalizing s with
  | nil => rfl
  | cons n l ih =>
    obtain ⟨hn, hrest⟩ := List.nodup_cons.mp hl
    have hrecord := s.record_modifyRecord n m (BoardRecord.sample s.oven (s.boardCoating n) s.cure.zones d)
    rw [List.foldl_cons, ih hrest, hrecord]
    by_cases hm : m = n
    · subst hm
      rw [if_neg hn, if_pos rfl, if_pos List.mem_cons_self]
    · have hcoating : (s.modifyRecord n (BoardRecord.sample s.oven (s.boardCoating n) s.cure.zones d)).boardCoating m =
          s.boardCoating m := by
        exact State.boardCoating_congr (hrecord.trans (if_neg hm)) rfl
      rw [if_neg hm, hcoating]
      simp only [List.mem_cons, hm, false_or]
      rfl

theorem foldSample_eq (d : Nat) (l : List Tag) (s : State) :
    let t := l.foldl (fun u n => u.modifyRecord n (BoardRecord.sample u.oven (u.boardCoating n) u.cure.zones d)) s
    t = { s with tracker := { s.tracker with boards := t.tracker.boards } } := by
  induction l generalizing s with
  | nil => rfl
  | cons n l ih => exact ih (s.modifyRecord n (BoardRecord.sample s.oven (s.boardCoating n) s.cure.zones d))

theorem BoardRecord.sample_runOut {o : OvenTable} {c : Coating} {zones : Vector ZoneValue 6} {d : Nat} {b : BoardRecord}
    (h : o.zoneOf (min 65535 (b.position + d)) = none) : b.sample o c zones d =
      { b with position := min 65535 (b.position + d), dose := min 65535 b.dose } := by
  simp only [BoardRecord.sample, h]

theorem BoardRecord.sample_zone {o : OvenTable} {c : Coating} {zones : Vector ZoneValue 6} {d : Nat} {b : BoardRecord}
    {z : Fin 6} (h : o.zoneOf (min 65535 (b.position + d)) = some z) : b.sample o c zones d = { b with
      position := min 65535 (b.position + d)
      dose := min 65535 (b.dose + c.weight zones[z].value)
      reasons := b.reasons ||| (if c.scorch ≤ zones[z].value then 256 else 0) |||
        (if zones[z].verified = true then 0 else 512) } := by
  have hscorch : Reason.scorch.mask = 256 := rfl
  have hcure : Reason.cureUnverified.mask = 512 := rfl
  simp only [BoardRecord.sample, h, BoardRecord.addReasonIf, BoardRecord.addReason, hscorch, hcure, decide_eq_true_eq]
  generalize zones[z] = v
  by_cases hhot : c.scorch ≤ v.value <;> cases hverified : v.verified <;> simp [hhot]

theorem ZoneValue.take_readingOf (z : ZoneValue) (h : Half) : z.take (readingOf h) =
    if h.toNat ≤ 400 then ⟨h.toNat, 0, true⟩
    else ⟨z.value, min 255 (z.stale + 1), if z.stale + 1 = 3 then false else z.verified⟩ := by
  unfold readingOf
  by_cases hvalue : h.toNat ≤ 400
  · rw [if_pos hvalue, if_pos hvalue]
    rfl
  · rw [if_neg hvalue, if_neg hvalue, ZoneValue.take]
    by_cases hthird : z.stale + 1 = 3
    · simp [hthird]
    · rw [if_neg hthird, beq_eq_false_iff_ne.mpr hthird, Bool.not_false, Bool.and_true]

/-- The line between the readings of a sample and its boards: the sampling, the zones and the spacing (R138, R139). -/
def State.sampled (g : Fin 6 → Option Nat) (d : Nat) (s : State) : State :=
  (allZones.foldl (fun u z => u.takeReading z (g z)) (s.mapCure fun c =>
    { c with sampling := .receiving, silence := some (s.lineTime + Config.ovenSilence) })).mapCure fun c =>
      { c with spacing := min 65535 (c.spacing + d) }

theorem State.sampled_spec (g : Fin 6 → Option Nat) (d : Nat) :
    let u := s.sampled g d
    u.cure = { s.cure with
      sampling := .receiving, silence := some (s.lineTime + 2000), zones := Vector.ofFn (s.zoneAfter g ·)
      spacing := min 65535 (s.cure.spacing + d) } ∧
    u.exchange = ((allZones.filter (s.zoneChanges g ·)).foldl (fun u z => u.append (s.zoneEntry g z)) s).exchange ∧
    u = { s with cure := u.cure, exchange := u.exchange } := by
  intro u
  obtain ⟨v, hv⟩ : ∃ v : State, v = s.mapCure fun c =>
    { c with sampling := .receiving, silence := some (s.lineTime + Config.ovenSilence) } := ⟨_, rfl⟩
  obtain ⟨w, hw⟩ : ∃ w : State, w = allZones.foldl (fun u z => u.takeReading z (g z)) v := ⟨_, rfl⟩
  obtain ⟨hzones, hexchange, hkept⟩ := foldReadings_spec g allZones (List.nodup_finRange 6) v
  rw [← hw] at hzones hexchange hkept
  have hu : u = w.mapCure fun c => { c with spacing := min 65535 (c.spacing + d) } := by rw [hw, hv]; rfl
  have hall : w.cure.zones = Vector.ofFn (s.zoneAfter g ·) := by
    refine Vector.ext fun k hk => ?_
    rw [Vector.getElem_ofFn]
    refine (hzones ⟨k, hk⟩).trans ((if_pos (List.mem_finRange _)).trans ?_)
    rw [hv]
    rfl
  have hentries : w.exchange =
      ((allZones.filter (s.zoneChanges g ·)).foldl (fun u z => u.append (s.zoneEntry g z)) s).exchange := by
    rw [hexchange, hv]
    refine foldAppend_exchange_congr (s.zoneEntry g) _ ?_ ?_ <;> rfl
  rw [hall] at hkept
  refine ⟨?_, ?_, ?_⟩
  · rw [hu, State.mapCure, hkept, hv]
    rfl
  · rw [hu, State.mapCure, ← hentries]
  · rw [hu, State.mapCure]
    rw [hkept, hv]
    rfl

theorem State.takeOvenSample_eq (readings : Vector Half 6) (delta : Half) : s.takeOvenSample readings delta =
    let d := min 4095 delta.toNat
    let u := s.sampled (fun z => readingOf readings[z]) d
    (u.cure.oven.foldl (fun u n =>
      u.modifyRecord n (BoardRecord.sample u.oven (u.boardCoating n) u.cure.zones d)) u).driveGate := rfl

/-- Settles O44, by the zones' readings and then each board's sample. -/
theorem ovenSamplesAdvanceAndDose : Obligations.OvenSamplesAdvanceAndDose := by
  intro s readings delta hidle hnodup d zone changed
  obtain ⟨g, hg⟩ : ∃ g : Fin 6 → Option Nat, g = fun z => readingOf readings[z] := ⟨_, rfl⟩
  have hafter (z : Fin 6) : s.zoneAfter g z = zone z := by
    rw [State.zoneAfter, hg]
    exact ZoneValue.take_readingOf ..
  have hzone : (s.zoneAfter g ·) = zone := funext hafter
  obtain ⟨u, hu⟩ : ∃ u : State, u = s.sampled g d := ⟨_, rfl⟩
  obtain ⟨hcure, hexchange, hkept⟩ := s.sampled_spec g d
  rw [← hu, hzone] at hcure
  rw [← hu] at hexchange hkept
  obtain ⟨v, hv⟩ : ∃ v : State, v = u.cure.oven.foldl (fun u n =>
      u.modifyRecord n (BoardRecord.sample u.oven (u.boardCoating n) u.cure.zones d)) u := ⟨_, rfl⟩
  have hexec : exec (.ovenSample readings delta) s = .next v.driveGate := by
    refine congrArg Host.Outcome.next ((State.receiveFrame_idle hidle _ _).trans ?_)
    rw [State.takeOvenSample_eq, hv, hu, hg]
  have hvkept : v = { u with tracker := { u.tracker with boards := v.tracker.boards } } := by
    rw [hv]
    exact foldSample_eq ..
  have hoven : u.cure.oven = s.cure.oven := by rw [hcure]
  have hrecord (m : Tag) : v.record m = if m ∈ s.cure.oven then
      (s.record m).sample s.oven (s.boardCoating m) (Vector.ofFn zone) d else s.record m := by
    have hsame : u.record m = s.record m ∧ u.oven = s.oven ∧ u.boardCoating m = s.boardCoating m := by
      rw [hkept]
      exact ⟨rfl, rfl, rfl⟩
    obtain ⟨hboard, htable, hcoating⟩ := hsame
    rw [hv, hoven, foldSample_record d _ hnodup, hboard, htable, hcoating, hcure]
  have hzones (z : Fin 6) : (Vector.ofFn zone)[z] = zone z := Vector.getElem_ofFn ..
  refine ⟨v.driveGate, hexec, ?_, ?_, fun n hn => ?_, fun n hn => ?_, ?_⟩
  · rw [State.driveGate_gateWanted, State.driveGate_eq, hvkept, hcure]
  · have hchanges : (s.zoneChanges g ·) = fun z => (zone z).verified != s.cure.zones[z].verified :=
      funext fun z => by rw [State.zoneChanges, hafter]
    have hentry : (fun (u : State) z => u.append (s.zoneEntry g z)) =
        fun u z => u.append (.zoneState z (zone z).verified (zone z).value) :=
      funext fun u => funext fun z => by rw [State.zoneEntry, hafter]
    simp only [State.driveGate_keeps]
    rw [hvkept, hexchange, hchanges, hentry]
    rfl
  · rw [State.driveGate_record, hrecord, if_neg hn]
  · intro b c position
    rw [State.driveGate_record, hrecord, if_pos hn]
    refine ⟨fun z hend hstart w hw => ?_, fun hout => ?_⟩
    · rw [BoardRecord.sample_zone (State.zoneOf_eq_some hend hstart), hzones, Coating.weight_of_weighs hw]
    · exact BoardRecord.sample_runOut (State.zoneOf_eq_none hout)
  · rw [State.driveGate_eq, hvkept, hkept]

end Sys2Proof.Machine
end

section
/-! PROOFS. Faults and the line clear (sections 10.2 and 10.3). -/

namespace Sys2Proof.Machine

variable {s : State}

/-! ### Faults (R171, R172) -/

theorem State.abort_cellBoard_exchange (cause : StopCause) (a : Option ApplicatorId) : (s.abort cause a).exchange =
    (s.append (.cellState s.cellBoard .stopped s.sequencer.cell (some cause))).exchange := by
  cases hboard : s.cellBoard with
  | some n => exact State.abort_exchange hboard cause a
  | none =>
    have habort : s.abort cause a = (s.halted.mapSequencer fun q =>
        { q with stopCause := some cause, stopApplicator := a }).setCell .stopped (some cause) := by
      rw [State.abort, hboard]
      rfl
    have hkept : s.halted.cellBoard = none := by simpa [State.cellBoard] using hboard
    have hcell : s.halted.sequencer.cell = s.sequencer.cell := by rw [State.halted_sequencer]
    rw [habort, State.setCell_exchange, if_neg (by decide)]
    refine (congrArg (fun e => (State.append e _).exchange) ?_).trans
      (State.append_exchange_congr (s := s) (by simp) (by simp) _)
    exact congrArg₂ (fun board cell => Activity.cellState board .stopped cell (some cause)) hkept hcell

theorem State.abort_loaderReady (cause : StopCause) (a : Option ApplicatorId) :
    (s.abort cause a).tracker.loaderReady = s.tracker.loaderReady := by
  have hhalted : (s.closeValve.send .halt).dropSegment = s.halted := rfl
  unfold State.abort
  rw [hhalted]
  cases s.cellBoard with
  | none => simp
  | some n =>
    simp only [State.setCell_keeps, State.mapSequencer_keeps]
    exact (Eq.refl s.halted.tracker.loaderReady).trans
      (congrArg Tracker.loaderReady (State.halted_keeps (s := s)).1)

/-- The line as a first fault enters FAULTED, ahead of the cell's answer (R171). -/
def State.faulted (code : FaultCode) (route : Option Route) (tag : Option Tag) (cause : Nat) (s : State) : State :=
  (((({ s with line := ⟨.faulted, some code⟩ }.setAttn attnFault).append (.fault code true route tag cause)).append
    (.lineMode .faulted s.line.mode none))).driveLoader

section
variable (code : FaultCode) (route : Option Route) (tag : Option Tag) (cause : Nat)

theorem State.raiseFault_later (h : s.line.mode = .lost ∨ s.line.mode = .faulted) :
    s.raiseFault code route tag cause = s.append (.fault code false route tag cause) := by
  unfold State.raiseFault
  refine if_neg ?_
  obtain h | h := h <;> rw [h] <;> exact Bool.false_ne_true

theorem State.faulted_line : (s.faulted code route tag cause).line = ⟨.faulted, some code⟩ := by
  simp [State.faulted, State.setAttn]

theorem State.raiseFault_first (hlost : s.line.mode ≠ .lost) (hfaulted : s.line.mode ≠ .faulted) :
    s.raiseFault code route tag cause = ((s.faulted code route tag cause).abortActive .motion).driveGate := by
  have hfirst : s.line.mode.firstFaults = true := by
    cases hmode : s.line.mode with
    | lost => exact absurd hmode hlost
    | faulted => exact absurd hmode hfaulted
    | _ => rfl
  have hcell : (s.faulted code route tag cause).cellOnMode = (s.faulted code route tag cause).abortActive .motion := by
    unfold State.cellOnMode
    rw [State.faulted_line]
  rw [← hcell, State.raiseFault]
  exact if_pos hfirst

@[simp] theorem State.faulted_keeps : (s.faulted code route tag cause).sequencer = s.sequencer ∧
    (s.faulted code route tag cause).tracker.boards = s.tracker.boards ∧
    (s.faulted code route tag cause).tracker.cell = s.tracker.cell ∧
    (s.faulted code route tag cause).tracker.loaderReady = false ∧
    (s.faulted code route tag cause).cure = s.cure ∧ (s.faulted code route tag cause).tables = s.tables ∧
    (s.faulted code route tag cause).holds = s.holds ∧ (s.faulted code route tag cause).coverage = s.coverage ∧
    (s.faulted code route tag cause).verifier = s.verifier ∧ (s.faulted code route tag cause).cards = s.cards ∧
    (s.faulted code route tag cause).lineTime = s.lineTime := by
  have hloader : (s.faulted code route tag cause).loaderCondition = false := by
    refine Bool.eq_false_iff.mpr fun h => ?_
    obtain ⟨hrun, -⟩ := State.loaderCondition_iff.mp h
    rw [State.faulted_line] at hrun
    cases hrun
  have hready := State.driveLoader_loaderReady (s := (({ s with line := ⟨.faulted, some code⟩ }.setAttn
    attnFault).append (.fault code true route tag cause)).append (.lineMode .faulted s.line.mode none))
  refine ⟨?_, ?_, ?_, hready.trans hloader, ?_⟩
  all_goals rw [State.faulted, State.driveLoader_eq]; simp [State.setAttn]

end

/-- Settles O50, by the equations of a first and of a later fault. -/
theorem firstFaultsStopTheLine : Obligations.FirstFaultsStopTheLine := by
  intro s code route tag cause t active logged
  refine ⟨State.raiseFault_later code route tag cause, fun hlost hfaulted => ?_⟩
  obtain ⟨f, hf⟩ : ∃ f, f = s.faulted code route tag cause := ⟨_, rfl⟩
  obtain ⟨hsequencer, hboards, hcells, hready, hcure, htables, hholds, hcoverage, hverifier, hcards, htime⟩ :=
    s.faulted_keeps code route tag cause
  have hline := s.faulted_line code route tag cause
  have hexchange : (s.faulted code route tag cause).exchange = logged.exchange := by
    rw [State.faulted]
    simp only [State.driveLoader_keeps]
    refine State.append_exchange_congr (State.append_exchange_congr ?_ ?_ _) ?_ _
    · rfl
    · rfl
    · simp only [State.append_keeps, State.setAttn]
  have ht : t = (f.abortActive .motion).driveGate := hf ▸ State.raiseFault_first code route tag cause hlost hfaulted
  rw [← hf] at hsequencer hboards hcells hready hcure htables hholds hcoverage hverifier hcards htime hline hexchange
  have hclosed : (f.abortActive .motion).gateWanted = .closed := by
    refine if_neg fun h => ?_
    obtain ⟨-, -, -, -, hmode, -⟩ := State.gateCondition_iff.mp h
    simp [hline] at hmode
  have hgate : t.cure = { s.cure with gate := .closed } := by
    rw [ht, State.driveGate_eq, hclosed]
    simp only [State.abortActive_keeps, hcure]
  have hidle (h : ¬active) : f.abortActive .motion = f := by
    rw [State.abortActive_eq, hsequencer, if_neg h]
  have hstops (h : active) : f.abortActive .motion = f.abort .motion none := by
    rw [State.abortActive_eq, hsequencer, if_pos h]
  have hattn : t.exchange.attn.getLsbD 3 = true := by
    have hlogged : logged.exchange.attn.getLsbD 3 = true :=
      State.append_attn_set _ (State.append_attn_set _ (by simp))
    rw [ht]
    simp only [State.driveGate_keeps]
    by_cases h : active
    · rw [hstops h, State.abort_cellBoard_exchange]
      exact State.append_attn_set _ (hexchange ▸ hlogged)
    · rw [hidle h, hexchange]
      exact hlogged
  have hloader : t.tracker.loaderReady = false := by
    rw [ht]
    simp only [State.driveGate_keeps]
    by_cases h : active
    · rw [hstops h, State.abort_loaderReady, hready]
    · rw [hidle h, hready]
  refine ⟨by rw [ht]; simp [hline], hattn, hloader, hgate, fun h => ?_, fun h => ?_, ?_⟩
  · rw [ht, hidle h]
    simp only [State.driveGate_keeps]
    exact ⟨hsequencer, hboards, hexchange⟩
  · rw [ht, hstops h]
    simp only [State.driveGate_keeps, State.abort_sequencer]
    refine ⟨trivial, trivial, ?_, ?_, ?_⟩
    · rw [State.halted_sequencer]
    · rw [State.halted_sequencer]
    · have hboard : f.cellBoard = s.cellBoard := congrArg headTag hcells
      rw [State.abort_cellBoard_exchange, hboard, hsequencer]
      exact State.append_exchange_congr hexchange (by rw [htime]; simp [logged]) _
  · rw [ht]
    simp [htables, hholds, hcoverage, hverifier, hcards, htime]

/-! ### The line clear (R107, R173, R174) -/

theorem State.lineTime_clearBoard (n : Tag) : (s.clearBoard n).lineTime = s.lineTime := rfl

theorem State.record_clearBoard (n m : Tag) : (s.clearBoard n).record m =
    if m = n then (s.record n).clearLine s.lineTime else s.record m :=
  State.record_modifyRecord s n m (BoardRecord.clearLine s.lineTime)

theorem foldClearBoard_eq (l : List Tag) (s : State) :
    let t := l.foldl State.clearBoard s
    t = { s with
      tracker := { s.tracker with boards := t.tracker.boards }, holds := { s.holds with since := t.holds.since } } := by
  induction l generalizing s with
  | nil => rfl
  | cons n l ih => exact ih (s.clearBoard n)

theorem foldClearBoard_record {l : List Tag} (hl : l.Nodup) (s : State) (m : Tag) :
    (l.foldl State.clearBoard s).record m =
      if m ∈ l then (s.record m).clearLine s.lineTime else s.record m := by
  induction l generalizing s with
  | nil => rfl
  | cons n l ih =>
    obtain ⟨hn, hrest⟩ := List.nodup_cons.mp hl
    rw [List.foldl_cons, ih hrest, State.record_clearBoard, State.lineTime_clearBoard]
    by_cases hm : m = n
    · subst hm
      rw [if_neg hn, if_pos rfl, if_pos List.mem_cons_self]
    · simp only [List.mem_cons, hm, false_or, if_false]

theorem joinOrder_perm (later : Tag → Bool) (n : Tag) (l : List Tag) : (joinOrder later n l).Perm (n :: l) := by
  induction l with
  | nil => exact List.Perm.refl _
  | cons x l ih =>
    rw [joinOrder]
    split
    · exact List.Perm.refl _
    · exact (ih.cons x).trans (List.Perm.swap n x l)

theorem State.mem_since_clearBoard (n m : Tag) :
    m ∈ (s.clearBoard n).holds.since ↔ m = n ∨ m ∈ s.holds.since :=
  (joinOrder_perm _ n _).mem_iff.trans List.mem_cons

theorem mem_since_foldClearBoard (l : List Tag) (s : State) (m : Tag) :
    m ∈ (l.foldl State.clearBoard s).holds.since ↔ m ∈ l ∨ m ∈ s.holds.since := by
  induction l generalizing s with
  | nil => simp
  | cons n l ih => rw [List.foldl_cons, ih, State.mem_since_clearBoard, List.mem_cons, or_assoc, or_left_comm]

/-- A tag's place in an ascending list that lacks it. -/
theorem ascending_split {n : Tag} {l : List Tag} (hl : l.Pairwise (· < ·)) (hn : n ∉ l) :
    ∃ low high, l = low ++ high ∧ (∀ m ∈ low, m < n) ∧ ∀ m ∈ high, n < m := by
  induction l with
  | nil => exact ⟨[], [], rfl, by simp, by simp⟩
  | cons x l ih =>
    obtain ⟨hx, hrest⟩ := List.pairwise_cons.mp hl
    obtain hlt | rfl | hgt := lt_trichotomy n x
    · refine ⟨[], x :: l, rfl, by simp, fun m hm => ?_⟩
      obtain rfl | hm := List.mem_cons.mp hm
      · exact hlt
      · exact hlt.trans (hx m hm)
    · exact absurd List.mem_cons_self hn
    · obtain ⟨low, high, rfl, hlow, hhigh⟩ := ih hrest fun h => hn (List.mem_cons_of_mem x h)
      refine ⟨x :: low, high, rfl, fun m hm => ?_, hhigh⟩
      obtain rfl | hm := List.mem_cons.mp hm
      · exact hgt
      · exact hlow m hm

/-- A board in the hold order lets one of its held time with a lower tag stand ahead of it (R158). -/
def State.yields (n m : Tag) (s : State) : Bool :=
  (s.record m).heldTime == (s.record n).heldTime && decide (n < m)

/-- A cleared board joins the boards already held at that time by tag. -/
theorem State.clearBoard_joins {n : Tag} {before last : List Tag} (hsince : s.holds.since = before ++ last)
    (hn : n ∉ before ++ last) (hlast : last.Pairwise (· < ·))
    (hheld : ∀ m ∈ last, (s.record m).heldTime = some s.lineTime)
    (hbefore : ∀ m, before.getLast? = some m → (s.record m).heldTime ≠ some s.lineTime) :
    ∃ joined, (s.clearBoard n).holds.since = before ++ joined ∧ joined.Pairwise (· < ·) ∧
      ∀ m, m ∈ joined ↔ m = n ∨ m ∈ last := by
  obtain ⟨low, high, rfl, hlow, hhigh⟩ := ascending_split hlast fun h => hn (List.mem_append_right _ h)
  obtain ⟨hlows, hhighs, hcross⟩ := List.pairwise_append.mp hlast
  refine ⟨low ++ n :: high, ?_, ?_, fun m => by simp [or_left_comm]⟩
  · have htime (m : Tag) (hm : m ∈ before ++ (low ++ high)) : ((s.clearBoard n).record m).heldTime =
        (s.record m).heldTime := by
      rw [State.record_clearBoard, if_neg fun h : m = n => hn (h ▸ hm)]
    have hown : ((s.clearBoard n).record n).heldTime = some s.lineTime := by
      rw [State.record_clearBoard, if_pos rfl]
      rfl
    have hafter : ∀ m ∈ high, (s.clearBoard n).yields n m = true := fun m hm => by
      have hlater : m ∈ low ++ high := List.mem_append_right _ hm
      rw [State.yields, Bool.and_eq_true, beq_iff_eq, decide_eq_true_eq, hown, htime m (List.mem_append_right _ hlater)]
      exact ⟨hheld m hlater, hhigh m hm⟩
    have hahead : ∀ m, (before ++ low).getLast? = some m → (s.clearBoard n).yields n m = false := fun m hm => by
      rw [State.yields, Bool.and_eq_false_iff, beq_eq_false_iff_ne, decide_eq_false_iff_not, hown]
      rw [List.getLast?_append] at hm
      cases hlowest : low.getLast? with
      | some k =>
        rw [hlowest] at hm
        cases hm
        exact Or.inr (lt_asymm (hlow m (List.mem_of_getLast? hlowest)))
      | none =>
        rw [hlowest] at hm
        rw [htime m (List.mem_append_left _ (List.mem_of_getLast? hm))]
        exact Or.inl (hbefore m hm)
    have hjoined := joinOrder_split n hafter hahead
    rw [List.append_assoc, List.append_assoc, ← hsince] at hjoined
    exact hjoined
  · refine List.pairwise_append.mpr ⟨hlows, List.pairwise_cons.mpr ⟨hhigh, hhighs⟩, fun a ha b hb => ?_⟩
    obtain rfl | hb := List.mem_cons.mp hb
    · exact hlow a ha
    · exact hcross a ha b hb

/-- Cleared boards join by tag the boards already held at that time (notes/assumptions/17.md). -/
theorem foldClearBoard_since {l : List Tag} (hl : l.Nodup) (s : State) {before last : List Tag}
    (hsince : s.holds.since = before ++ last) (hnew : ∀ n ∈ l, n ∉ before ++ last) (hlast : last.Pairwise (· < ·))
    (hheld : ∀ m ∈ last, (s.record m).heldTime = some s.lineTime)
    (hbefore : ∀ m, before.getLast? = some m → (s.record m).heldTime ≠ some s.lineTime) :
    ∃ joined, (l.foldl State.clearBoard s).holds.since = before ++ joined ∧ joined.Pairwise (· < ·) ∧
      ∀ m, m ∈ joined ↔ m ∈ last ∨ m ∈ l := by
  induction l generalizing s last with
  | nil => exact ⟨last, hsince, hlast, by simp⟩
  | cons n l ih =>
    obtain ⟨hn, hrest⟩ := List.nodup_cons.mp hl
    have hfresh := hnew n List.mem_cons_self
    obtain ⟨joined, hjoins, hascends, hmem⟩ := State.clearBoard_joins hsince hfresh hlast hheld hbefore
    have hother {m : Tag} (hm : m ∈ before ++ last) : (s.clearBoard n).record m = s.record m := by
      rw [State.record_clearBoard, if_neg fun h : m = n => hfresh (h ▸ hm)]
    have hrestnew : ∀ m ∈ l, m ∉ before ++ joined := fun m hm hold => by
      obtain h | h := List.mem_append.mp hold
      · exact hnew m (List.mem_cons_of_mem n hm) (List.mem_append_left _ h)
      · obtain rfl | h := (hmem m).mp h
        · exact hn hm
        · exact hnew m (List.mem_cons_of_mem n hm) (List.mem_append_right _ h)
    have hjoinedheld : ∀ m ∈ joined, ((s.clearBoard n).record m).heldTime = some (s.clearBoard n).lineTime :=
      fun m hm => by
        rw [State.lineTime_clearBoard]
        obtain rfl | h := (hmem m).mp hm
        · rw [State.record_clearBoard, if_pos rfl]
          rfl
        · rw [hother (List.mem_append_right _ h)]
          exact hheld m h
    obtain ⟨final, hfinal, hsorted, hall⟩ := ih hrest (s.clearBoard n) hjoins hrestnew hascends hjoinedheld
      fun m hm => by
        rw [State.lineTime_clearBoard, hother (List.mem_append_left _ (List.mem_of_getLast? hm))]
        exact hbefore m hm
    refine ⟨final, hfinal, hsorted, fun m => ?_⟩
    rw [hall, hmem, List.mem_cons, or_assoc, or_left_comm]

theorem SlotState.isReserved_iff (v : SlotState) : v.isReserved = true ↔ v.code = 1 := by
  cases v <;> simp [SlotState.isReserved, SlotState.code]

/-- The entry of a slot that becomes FREE (R151). -/
def State.freedEntry (s : State) (k : SlotId) : Activity :=
  .slotState k .free s.holds.slots[k] s.holds.slots[k].tag

theorem State.setSlot_free (n : SlotId) : s.setSlot n .free =
    ({ s with holds := { s.holds with slots := s.holds.slots.set n .free } } : State).append
      (s.freedEntry n) := rfl

theorem foldFreeSlot_spec {l : List SlotId} (hl : l.Nodup) (s : State) :
    let t := l.foldl (fun u k => u.setSlot k .free) s
    (∀ k, t.holds.slots[k] = if k ∈ l then .free else s.holds.slots[k]) ∧
    t.exchange = (l.foldl (fun u k => u.append (s.freedEntry k)) s).exchange ∧
    t = { s with holds := { s.holds with slots := t.holds.slots }, exchange := t.exchange } := by
  induction l generalizing s with
  | nil =>
    intro t
    refine ⟨fun k => ?_, ?_, ?_⟩
    · exact (if_neg List.not_mem_nil).symm
    · rfl
    · rfl
  | cons x l ih =>
    intro t
    obtain ⟨hx, hrest⟩ := List.nodup_cons.mp hl
    obtain ⟨u, hu⟩ : ∃ u, u = s.setSlot x .free := ⟨_, rfl⟩
    have ht : l.foldl (fun u k => u.setSlot k .free) u = t := by rw [hu]; rfl
    have hkept : u = { s with holds := { s.holds with slots := s.holds.slots.set x .free }, exchange := u.exchange }
        := by
      rw [hu, State.setSlot_free, State.append_eq]
    have hslot (k : SlotId) : u.holds.slots[k] = if k = x then .free else s.holds.slots[k] := by
      rw [hkept]
      exact Vector.getElem_set_fin ..
    have hother {k : SlotId} (hk : k ∈ l) : u.holds.slots[k] = s.holds.slots[k] := by
      rw [hslot, if_neg fun h : k = x => hx (h ▸ hk)]
    obtain ⟨hslots, hexchange, hstate⟩ := ih hrest u
    rw [ht] at hslots hexchange hstate
    refine ⟨fun k => ?_, ?_, ?_⟩
    · rw [hslots, hslot]
      by_cases hk : k ∈ l
      · rw [if_pos hk, if_pos (List.mem_cons_of_mem x hk)]
      · simp only [List.mem_cons, hk, or_false, if_false]
    · have hentry {k : SlotId} (hk : k ∈ l) : u.freedEntry k = s.freedEntry k := by
        rw [State.freedEntry, hother hk]
        rfl
      rw [hexchange, List.foldl_ext _ (fun v k => v.append (s.freedEntry k)) u fun v k hk => by rw [hentry hk], hu,
        State.setSlot_free, List.foldl_cons]
      refine foldAppend_exchange_congr _ _ ?_ ?_
      · refine State.append_exchange_congr ?_ ?_ _ <;> rfl
      · simp only [State.append_keeps]
    · rw [hstate, hkept]

theorem State.clearCell_eq : s.clearCell = { s with
    sequencer := { s.sequencer with
      cell := .idle, stopCause := none, stopApplicator := none, index := 0, segment := none, phase := .none
      deadline := none, valve := none, valveStart := none }
    exchange := if s.sequencer.cell = .idle then s.exchange
      else (s.append (.cellState none .idle s.sequencer.cell none)).exchange } := by
  unfold State.clearCell
  dsimp only
  by_cases hidle : s.sequencer.cell = .idle
  · rw [if_pos hidle, if_pos hidle, ← hidle]
    rfl
  · rw [if_neg hidle, if_neg hidle, State.setCell, if_pos rfl, State.append_eq]
    refine congrArg (fun x => ({ s with sequencer := _, exchange := x } : State)) ?_
    refine State.append_exchange_congr ?_ ?_ _ <;> rfl

theorem State.clearOven_eq : s.clearOven = { s with
    cure := { s.cure with ovenStop := false, gate := .closed }
    ports := { s.ports with
      oven := if s.cure.ovenStop then s.ports.oven.issue (.ovenStop false) else s.ports.oven } } := by
  unfold State.clearOven
  dsimp only
  split <;> rfl

theorem FrameEntry.clear_eq (e : FrameEntry) : e.clear =
    if e.state = .active ∨ (e.state = .reserved ∧ e.owner ≠ none) then { e with state := .retained } else e := by
  unfold FrameEntry.clear
  cases e.state <;> cases e.owner <;> simp

/-- The entries of a line clear ahead of its LINE_MODE (R174). -/
def State.clearEntries (s : State) : State :=
  let freed := s.reservedSlots.foldl (fun u k => u.append (s.freedEntry k)) s
  if s.sequencer.cell = .idle then freed else freed.append (.cellState none .idle s.sequencer.cell none)

theorem foldClearBoard_verifier (v : Verifier) (l : List Tag) (s : State) :
    l.foldl State.clearBoard { s with verifier := v } = { l.foldl State.clearBoard s with verifier := v } := by
  induction l generalizing s with
  | nil => rfl
  | cons n l ih => exact ih (s.clearBoard n)

/-- What a line clear leaves, ahead of the change of the mode (R174). -/
theorem State.clearedLine_spec : ∃ boards since slots, s.clearedLine = { s with
      verifier := ⟨.idle, .none⟩
      tracker := { Tracker.reset boards with
        admissions := s.tracker.admissions, loaderReady := s.tracker.loaderReady }
      coverage := { s.coverage with frames := s.coverage.frames.map FrameEntry.clear }
      holds := { s.holds with since := since, slots := slots }
      sequencer := { s.sequencer with
        cell := .idle, stopCause := none, stopApplicator := none, index := 0, segment := none, phase := .none
        deadline := none, valve := none, valveStart := none }
      cure := { s.cure with oven := [], ovenStop := false, gate := .closed }
      line := { s.line with firstFault := none }
      ports := { s.ports with
        oven := if s.cure.ovenStop then s.ports.oven.issue (.ovenStop false) else s.ports.oven }
      exchange := s.clearEntries.exchange } ∧
    (∀ m : Tag, boards[m] =
      if m ∈ s.transportTags then (s.record m).clearLine s.lineTime else s.record m) ∧
    since = (s.transportTags.foldl State.clearBoard s).holds.since ∧
    (∀ k : SlotId, slots[k] = if k ∈ s.reservedSlots then .free else s.holds.slots[k]) := by
  have hnodup : s.transportTags.Nodup := (List.nodup_finRange 32).filter _
  obtain ⟨a, ha⟩ : ∃ a, a = s.transportTags.foldl State.clearBoard s := ⟨_, rfl⟩
  have hkept : a = { s with
      tracker := { s.tracker with boards := a.tracker.boards }, holds := { s.holds with since := a.holds.since } } :=
    ha ▸ foldClearBoard_eq s.transportTags s
  have hrecord (m : Tag) : a.tracker.boards[m] =
      if m ∈ s.transportTags then (s.record m).clearLine s.lineTime else s.record m :=
    ha ▸ foldClearBoard_record hnodup s m
  obtain ⟨b, hb⟩ : ∃ b : State, b = ({ a with verifier := Verifier.reset } : State).clearFrames.clearLists := ⟨_, rfl⟩
  obtain ⟨c, hc⟩ : ∃ c : State, c = b.clearSlots := ⟨_, rfl⟩
  have hcleared : s.clearedLine =
      { c.clearCell.clearOven with line := { c.clearCell.clearOven.line with firstFault := none } } := by
    have hfold := foldClearBoard_verifier Verifier.reset s.transportTags s
    rw [← ha] at hfold
    rw [hc, hb, ← hfold]
    rfl
  obtain ⟨boards, hboards⟩ : ∃ boards, boards = a.tracker.boards := ⟨_, rfl⟩
  obtain ⟨since, hsince⟩ : ∃ since, since = a.holds.since := ⟨_, rfl⟩
  rw [← hboards] at hkept hrecord
  rw [← hsince] at hkept
  have hbkept : b = { s with
      verifier := ⟨.idle, .none⟩
      tracker := { Tracker.reset boards with
        admissions := s.tracker.admissions, loaderReady := s.tracker.loaderReady }
      coverage := { s.coverage with frames := s.coverage.frames.map FrameEntry.clear }
      holds := { s.holds with since := since }
      cure := { s.cure with oven := [] } } := by
    rw [hb, hkept]
    rfl
  obtain ⟨hslots, hexchange, hckept⟩ := foldFreeSlot_spec (l := s.reservedSlots) ((List.nodup_finRange 8).filter _) b
  have hfreed : s.reservedSlots.foldl (fun u k => u.setSlot k .free) b = c := by
    rw [hc, State.clearSlots, State.reservedSlots, State.reservedSlots, hbkept]
  rw [hfreed] at hslots hexchange hckept
  have hbslots (k : SlotId) : b.holds.slots[k] = s.holds.slots[k] := by rw [hbkept]
  obtain ⟨slots, hslotsnew⟩ : ∃ slots, slots = c.holds.slots := ⟨_, rfl⟩
  rw [← hslotsnew] at hckept hslots
  have hcexchange : c.exchange = (s.reservedSlots.foldl (fun u k => u.append (s.freedEntry k)) s).exchange := by
    have hentry : b.freedEntry = s.freedEntry := by rw [hbkept]; rfl
    rw [hexchange, hentry]
    refine foldAppend_exchange_congr _ _ ?_ ?_ <;> rw [hbkept]
  refine ⟨boards, since, slots, ?_, hrecord, ?_, fun k => (hslots k).trans (by rw [hbslots])⟩
  · have hcell : c.sequencer = s.sequencer := by rw [hckept, hbkept]
    have hentries : (if c.sequencer.cell = .idle then c.exchange
        else (c.append (.cellState none .idle c.sequencer.cell none)).exchange) = s.clearEntries.exchange := by
      rw [hcell, State.clearEntries]
      split
      · exact hcexchange
      · refine State.append_exchange_congr hcexchange ?_ _
        rw [foldl_keeps (·.lineTime) _ (fun u k => by simp only [State.append_keeps]) s s.reservedSlots, hckept, hbkept]
    rw [hcleared, State.clearOven_eq, State.clearCell_eq, hentries, hckept, hbkept]
  · rw [hsince, ha]

/-- The entry into READY with the gate CLOSED: the loader-ready level falls, and the cell and the gate stand. -/
theorem State.changeMode_ready_eq (hgate : s.cure.gate = .closed) : s.changeMode .ready = { s with
    line := { s.line with mode := .ready }
    exchange := (s.append (.lineMode .ready s.line.mode none)).exchange
    tracker := { s.tracker with loaderReady := false }
    ports := { s.ports with
      station := if s.tracker.loaderReady then s.ports.station.issue (.loaderReady false) else s.ports.station } } := by
  obtain ⟨u, hu⟩ : ∃ u : State, u =
    ({ s with line := { s.line with mode := .ready } } : State).append (.lineMode .ready s.line.mode none) := ⟨_, rfl⟩
  have hmode : u.line.mode = .ready := by rw [hu]; simp
  have hloader : u.loaderCondition = false := Bool.eq_false_iff.mpr fun h => by
    obtain ⟨hrun, -⟩ := State.loaderCondition_iff.mp h
    cases hmode.symm.trans hrun
  have hcell : u.driveLoader.cellOnMode = u.driveLoader := by
    have hline : u.driveLoader.line.mode = .ready := by simp [hmode]
    unfold State.cellOnMode
    rw [hline]
  have hclosed : u.driveLoader.gateWanted = .closed := if_neg fun h => by
    obtain ⟨-, -, -, -, hworking, -⟩ := State.gateCondition_iff.mp h
    simp [hmode] at hworking
  have hstands : u.driveLoader.driveGate = u.driveLoader := by
    refine if_pos (beq_iff_eq.mpr ?_)
    rw [hclosed, ← hgate, hu]
    simp
  have hchange : s.changeMode .ready = u.driveLoader := by
    have hentered : u.driveLoader = s.enterMode .ready := by rw [hu]; rfl
    rw [State.changeMode_eq, ← hentered, hcell, hstands]
  have hexchange : u.exchange = (s.append (.lineMode .ready s.line.mode none)).exchange := by
    rw [hu]
    refine State.append_exchange_congr ?_ ?_ _ <;> rfl
  have hkept : u = { s with line := { s.line with mode := .ready }, exchange := u.exchange } := by
    rw [hu, State.append_eq]
  rw [hchange, State.driveLoader_eq, hloader, ← hexchange, hkept]
  cases s.tracker.loaderReady <;> rfl

theorem State.clearLine_spec : ∃ boards since slots, s.clearLine = { s with
      verifier := ⟨.idle, .none⟩
      tracker := { Tracker.reset boards with admissions := s.tracker.admissions }
      coverage := { s.coverage with frames := s.coverage.frames.map FrameEntry.clear }
      holds := { s.holds with since := since, slots := slots }
      sequencer := { s.sequencer with
        cell := .idle, stopCause := none, stopApplicator := none, index := 0, segment := none, phase := .none
        deadline := none, valve := none, valveStart := none }
      cure := { s.cure with oven := [], ovenStop := false, gate := .closed }
      line := ⟨.ready, none⟩
      ports := { s.ports with
        station := if s.tracker.loaderReady then s.ports.station.issue (.loaderReady false) else s.ports.station
        oven := if s.cure.ovenStop then s.ports.oven.issue (.ovenStop false) else s.ports.oven }
      exchange := (s.clearEntries.append (.lineMode .ready s.line.mode none)).exchange } ∧
    (∀ m : Tag, boards[m] =
      if m ∈ s.transportTags then (s.record m).clearLine s.lineTime else s.record m) ∧
    since = (s.transportTags.foldl State.clearBoard s).holds.since ∧
    (∀ k : SlotId, slots[k] = if k ∈ s.reservedSlots then .free else s.holds.slots[k]) := by
  obtain ⟨boards, since, slots, hcleared, hboards, hsince, hslots⟩ := s.clearedLine_spec
  refine ⟨boards, since, slots, ?_, hboards, hsince, hslots⟩
  have htime : s.clearEntries.lineTime = s.lineTime := by
    have hfold := foldl_keeps (·.lineTime) (fun u k => u.append (s.freedEntry k))
      (fun u k => by simp only [State.append_keeps]) s s.reservedSlots
    unfold State.clearEntries
    split
    · exact hfold
    · simp only [State.append_keeps]
      exact hfold
  have hexchange : (s.clearedLine.append (.lineMode .ready s.line.mode none)).exchange =
      (s.clearEntries.append (.lineMode .ready s.line.mode none)).exchange := by
    refine State.append_exchange_congr ?_ ?_ _ <;> rw [hcleared]
    exact htime.symm
  have hmode : s.clearedLine.line.mode = s.line.mode := by rw [hcleared]
  rw [State.clearLine_eq, State.changeMode_ready_eq (by rw [hcleared]), hmode, hexchange, hcleared]
  rfl

theorem BoardRecord.inTransport_iff (b : BoardRecord) : b.inTransport = true ↔ b.valid = true ∧ b.stage ≠ .held := by
  rw [BoardRecord.inTransport, Bool.and_eq_true]
  cases b.stage <;> simp [Stage.transport]

theorem State.mem_transportTags (n : Tag) :
    n ∈ s.transportTags ↔ (s.record n).valid = true ∧ (s.record n).stage ≠ .held := by
  rw [State.transportTags, List.mem_filter, BoardRecord.inTransport_iff]
  exact and_iff_right (List.mem_finRange n)

theorem State.mem_reservedSlots (k : SlotId) : k ∈ s.reservedSlots ↔ s.holds.slots[k].code = 1 := by
  rw [State.reservedSlots, List.mem_filter, SlotState.isReserved_iff]
  exact and_iff_right (List.mem_finRange k)

theorem State.reservedSlots_eq :
    s.reservedSlots = (List.finRange 8).filter fun k => s.holds.slots[k].code == 1 :=
  List.filter_congr fun _ _ => Bool.eq_iff_iff.mpr ((SlotState.isReserved_iff _).trans beq_iff_eq.symm)

theorem State.transportTags_eq :
    s.transportTags = (List.finRange 32).filter fun n => (s.record n).valid && (s.record n).stage != .held :=
  List.filter_congr fun n _ => Bool.eq_iff_iff.mpr (by simp [BoardRecord.inTransport_iff])

/-- Settles O51, by the state after a line clear. -/
theorem declareClearHoldsEveryBoard : Obligations.DeclareClearHoldsEveryBoard := by
  intro s c rest hnext hkind moved reserved boards
  have hchecked : (!(s.line.mode == .lost || s.line.mode == .faulted)) = true ↔
      s.line.mode ≠ .lost ∧ s.line.mode ≠ .faulted := by simp
  have hshort (hfits : c.bodyLength.toNat ≤ 976) : c.badLength 0 = false :=
    TakenCard.badLength_eq_false_iff.mpr ⟨Nat.zero_le _, hfits⟩
  refine ⟨fun hlong => ?_, fun hfits hlost hfaulted => ?_, fun hfits hstopped => ?_⟩
  · exact exec_judged_refused (i := .declareClear) (before := []) rfl hnext (TakenCard.isKind_of hkind) rfl rfl
      allPass_nil (TakenCard.badLength_eq_true_iff.mpr fun h => Nat.not_lt.mpr h.2 hlong)
  · exact exec_judged_refused (i := .declareClear) (before := [_]) rfl hnext (TakenCard.isKind_of hkind) rfl rfl
      (allPass_cons.mpr ⟨hshort hfits, allPass_nil⟩) (hchecked.mpr ⟨hlost, hfaulted⟩)
  have hpass : allPass (s.clearChecks c) := by
    refine allPass_cons.mpr ⟨hshort hfits, allPass_cons.mpr ⟨Bool.eq_false_iff.mpr fun h => ?_, allPass_nil⟩⟩
    obtain ⟨hlost, hfaulted⟩ := hchecked.mp h
    exact hstopped.elim hlost hfaulted
  have hexec := exec_judged_applied (i := .declareClear) rfl hnext (TakenCard.isKind_of hkind) rfl hpass
  have hdetails : result .ok [s.line.mode.code, faultByte s.line.firstFault, s.transportTags.length,
      s.reservedSlots.length] = ⟨.ok, [word s.line.mode.code, word (faultByte s.line.firstFault), word boards,
        word reserved]⟩ := by
    rw [State.transportTags_eq, State.reservedSlots_eq]
    rfl
  rw [hdetails] at hexec
  obtain ⟨records, since, slots, hclear, hrecords, hsince, hslots⟩ := s.clearLine_spec
  have hnodup : s.transportTags.Nodup := (List.nodup_finRange 32).filter _
  have hmoved (n : Tag) : n ∈ s.transportTags ↔ moved n := State.mem_transportTags n
  have hmem (n : Tag) : n ∈ since ↔ moved n ∨ n ∈ s.holds.since := by
    rw [hsince, mem_since_foldClearBoard, hmoved]
  obtain ⟨u, hu⟩ : ∃ u, u = s.clearLine := ⟨_, rfl⟩
  rw [← hu] at hexec hclear
  have horder : u.holdOrder = s.holds.kept ++ since := by rw [hclear]; rfl
  have hrecord (n : Tag) : u.record n = if moved n then (s.record n).clearLine s.lineTime else s.record n := by
    have hboards : u.record n = records[n] := by rw [hclear]; rfl
    rw [hboards, hrecords]
    simp only [hmoved]
  refine ⟨u, hexec, by rw [hclear], by rw [hclear], fun n => ⟨fun hn => ⟨?_, ?_⟩, fun hn => ?_⟩, fun n hn => ?_, ?_,
    fun f => ?_, fun k => ?_, by rw [hclear], by rw [hclear], by rw [hclear], by rw [hclear],
    fun before after hsplit hnew hafter hascends hbefore => ?_, ?_, by rw [hclear]⟩
  · rw [hrecord, if_pos hn]
    rfl
  · rw [horder]
    exact List.mem_append_right _ ((hmem n).mpr (Or.inl hn))
  · rw [hrecord, if_neg hn]
  · rw [horder]
    obtain h | h := List.mem_append.mp hn
    · exact List.mem_append_left _ h
    · exact List.mem_append_right _ ((hmem n).mpr (Or.inr h))
  · rw [hclear]
    rfl
  · rw [← FrameEntry.clear_eq, hclear]
    exact Vector.getElem_map ..
  · have hk : u.holds.slots[k] = slots[k] := by rw [hclear]
    rw [hk, hslots]
    simp only [State.mem_reservedSlots]
  · obtain ⟨last, hlast, hsorted, hall⟩ := foldClearBoard_since hnodup s hsplit
      (fun n hn hold => hnew n (hsplit ▸ hold) ((hmoved n).mp hn)) hascends hafter hbefore
    refine ⟨last, ?_, hsorted, fun n => ?_⟩
    · rw [horder, hsince, hlast, List.append_assoc]
    · rw [hall, hmoved]
  · intro freed stopped
    have hstops : stopped = s.clearEntries := by
      rw [State.clearEntries, State.reservedSlots_eq]
      rfl
    rw [hclear, hstops]

end Sys2Proof.Machine
end

section
/-! PROOFS. Resets and the restart conversion (section 10.4). -/

namespace Sys2Proof.Machine

variable {s : State}

/-! ### Visits that find nothing -/

theorem State.visitAll_of_none_due {l : List Visit} (h : ∀ v ∈ l, s.due v = false) : s.visitAll l = s := by
  induction l with
  | nil => rfl
  | cons v l ih =>
    have hrest := ih fun w hw => h w (List.mem_cons_of_mem v hw)
    rw [State.visitAll, List.foldl_cons, State.visit_not_due (h v List.mem_cons_self)]
    exact hrest

/-! ### POWER_ON (R176, R177) -/

theorem restarted_blank :
    (Vector.replicate 32 BoardRecord.blank).map BoardRecord.restart = Vector.replicate 32 BoardRecord.blank :=
  Vector.map_replicate

theorem rebuiltFrame_blank (f : FrameId) :
    rebuiltFrame (Vector.replicate 32 BoardRecord.blank) f = FrameEntry.free := by
  have hnone : (allTags.find? fun n => (Vector.replicate 32 BoardRecord.blank)[n].valid &&
      (Vector.replicate 32 BoardRecord.blank)[n].mapFrame == some f) = none :=
    List.find?_eq_none.mpr fun n _ => by simp [BoardRecord.blank]
  unfold rebuiltFrame
  rw [hnone]

theorem rebuiltOrder_blank : rebuiltOrder (Vector.replicate 32 BoardRecord.blank) = [] := by
  have hnone : (allTags.filter fun n => (Vector.replicate 32 BoardRecord.blank)[n].valid) = [] :=
    List.filter_eq_nil_iff.mpr fun n _ => by simp [BoardRecord.blank]
  rw [rebuiltOrder, hnone]
  rfl

/-- A restart of kind POWER_ON up to its first entry, whatever stood before. -/
theorem State.beginRestart_powerOn : s.beginRestart .powerOn = { State.reset with
    pending := s.pending, freeCount := s.freeCount, start := s.start
    exchange := { State.reset.exchange with startStatus := s.exchange.startStatus } } := by
  have hframes : Vector.ofFn (rebuiltFrame (Vector.replicate 32 BoardRecord.blank)) = Vector.replicate 8
      FrameEntry.free :=
    Vector.ext fun k hk => by rw [Vector.getElem_ofFn, Vector.getElem_replicate, rebuiltFrame_blank]
  have hconvert : s.zeroExchange.convert = { State.reset with
      pending := s.pending, freeCount := s.freeCount, start := s.start
      exchange := { State.reset.exchange with
        startStatus := s.exchange.startStatus, attn := attnRestart, writeIndex := 0, mem := [] } } := by
    unfold State.convert State.zeroExchange
    dsimp only
    rw [restarted_blank, hframes, rebuiltOrder_blank]
    rfl
  have hbytes : Memory.writeBytes [] (entryAt 0) ((Activity.lineMode .lost .lost (some .powerOn)).bytes
      State.reset.lineTime) = State.reset.exchange.mem := by decide
  have hattn : attnRestart ||| attnActivity = State.reset.exchange.attn := by decide
  have hindex : (0 : Byte) + 1 = State.reset.exchange.writeIndex := by decide
  have hbegin : s.beginRestart .powerOn =
      s.zeroExchange.convert.append (.lineMode .lost .lost (some .powerOn)) := rfl
  rw [hbegin, hconvert, State.append, if_neg (by simp [State.listFull, State.readIndex, Memory.read])]
  dsimp only
  rw [hattn, hindex, hbytes]

theorem State.reset_record (n : Tag) : State.reset.record n = BoardRecord.blank := Vector.getElem_replicate ..

theorem State.reset_entry (k : CardId) : State.reset.exchange.directory[k] = ⟨.free, 0⟩ :=
  Vector.getElem_replicate ..

/-- After POWER_ON the memory holds the bytes of its first entry and zeros (R177). -/
theorem State.reset_read {o : Nat} (h : o < 0x1000 ∨ 0x1010 ≤ o) : State.reset.exchange.mem.read o = 0 := by
  have hmem : State.reset.exchange.mem = [(0x1000, 18), (0x1001, 9), (0x1004, 1)] := rfl
  rw [hmem, Memory.read, if_neg (by omega), Memory.read, if_neg (by omega), Memory.read, if_neg (by omega)]
  rfl

/-- A reset of kind POWER_ON that is let run leaves the reset state, whatever stood before (R175-R177). -/
theorem State.resetBy_powerOn {cause : ResetKind} (h : s.resetKind cause = .powerOn) (visits : Nat) :
    s.resetBy cause (.restart visits) =
      { State.reset with pending := s.pending, freeCount := s.freeCount } := by
  obtain ⟨t, ht⟩ : ∃ t : State, t = { State.reset with
      pending := s.pending, freeCount := s.freeCount, start := s.start } := ⟨_, rfl⟩
  have hbegin : (s.noteCause cause).beginRestart (s.resetKind cause) = t := by
    rw [h, State.beginRestart_powerOn, ht, State.noteCause, if_pos h]
    rfl
  have hdue (v : Visit) : t.due v = false := by
    rw [ht]
    cases v with
    | card k => exact (congrArg (fun e => e.state == .taken) (State.reset_entry k)).trans rfl
    | board n => exact congrArg BoardRecord.valid (State.reset_record n)
  have hnone : (restartVisits.drop visits).any t.due = false := List.any_eq_false.mpr fun v _ => by rw [hdue v]; simp
  rw [State.resetBy]
  dsimp only
  rw [hbegin, State.visitAll_of_none_due fun v _ => hdue v, hnone, ht]
  rfl

theorem State.reset_laws : State.reset.canonical ∧ State.reset.filmLaw ∧ State.reset.cellLaw ∧
    State.reset.frameLaw ∧ State.reset.listLaw ∧ State.reset.roomLaw ∧ State.reset.serialLaw := by
  refine ⟨?_, ?_, ?_, ?_, ?_, ?_, ?_⟩
  · decide
  · intro f column row _ hrow
    have hread (o : Nat) (ho : 0x14000 ≤ o) : State.reset.exchange.mem.read o = 0 :=
      State.reset_read (Or.inr (by omega))
    have hcell : 0x14000 ≤ cellAt f (column, row) := by
      rw [cellAt]
      omega
    rw [Memory.cell, hread _ hcell, hread _ (by omega)]
    decide
  · constructor <;> decide
  · constructor <;> decide
  · constructor <;> decide
  · constructor <;> decide
  · unfold State.serialLaw
    decide

theorem State.reset_readByte {o : Nat}
    (h : (0x100 ≤ o ∧ o < 0x200) ∨ (0x1010 ≤ o ∧ o < 0x2000) ∨ 0x4000 ≤ o) : State.reset.readByte o = 0 := by
  by_cases hstored : stored o
  · rw [State.readByte_stored hstored]
    exact State.reset_read (by omega)
  · have hbeyond : 0x20000 ≤ o := by
      unfold stored at hstored
      omega
    unfold State.readByte
    rw [if_neg (by omega), if_neg (by omega), if_neg (by omega), if_neg (by omega), if_neg (by omega),
      if_neg (by omega), if_neg (by omega), if_neg (show ¬o < 0x20000 by omega)]

/-- Settles O52: the values of the reset state, and POWER_ON as its cause. -/
theorem powerOnRestoresTheResetState : Obligations.PowerOnRestoresTheResetState := by
  obtain ⟨hcanonical, hfilm, hcell, hframe, hlist, hroom, hserial⟩ := State.reset_laws
  refine ⟨fun s n => congrArg Host.Outcome.next (State.resetBy_powerOn ?_ n),
    fun s hrun => congrArg Host.Outcome.next (State.live_running hrun _), rfl, hcanonical, hfilm, hcell, hframe, hlist,
    hroom, hserial, rfl, rfl, rfl, rfl, rfl, rfl, rfl, rfl, rfl, State.reset_entry, fun n => ⟨?_, fun i hi => ?_⟩,
    fun f => Vector.getElem_replicate .., fun o ho => State.reset_readByte ho, rfl, ?_,
    fun a => Vector.getElem_replicate .., fun k => Vector.getElem_replicate .., fun i => Vector.getElem_replicate ..,
    fun p => Vector.getElem_replicate .., fun e => Vector.getElem_replicate .., rfl, rfl, rfl,
    fun r => by cases r <;> exact ⟨rfl, rfl⟩, rfl, rfl, rfl, rfl, rfl, rfl, fun a => ?_,
    fun z => Vector.getElem_replicate .., rfl, rfl, rfl, rfl, rfl, fun n => Vector.getElem_replicate .., rfl, rfl⟩
  · unfold State.resetKind
    cases s.start with
    | held kind => cases kind <;> rfl
    | running => rfl
    | restarting visits => rfl
  · rw [State.reset_record]
    rfl
  · exact State.record_unwritten (by rw [State.reset_record]; rfl) hi
  · decide
  · exact congrArg Monitor.state (Vector.getElem_replicate ..)

/-! ### Parts that are held, and restarts that are cut short (R175, R186) -/

theorem State.resetKind_joins (cause : ResetKind) : s.resetKind cause = s.joinedKind cause := by
  unfold State.resetKind State.joinedKind
  cases s.start with
  | held kind => cases kind <;> cases cause <;> rfl
  | running => rfl
  | restarting visits => rfl

theorem exec_held {kind : ResetKind} (h : s.start = .held kind) {i : Instr} (hi : ordinary i) : exec i s = .next s := by
  have hserved (f : State → State) : s.served f = s := State.served_ignored (by simp [h]) f
  have hlive (f : State → State) : Host.Outcome.next (s.live f) = (.next s : Host.Outcome State Fault Refusal) :=
    congrArg Host.Outcome.next (State.live_held h f)
  have hinternal (hi : Instr.Internal i) : exec i s = .next s := by
    obtain ⟨f, hf⟩ := exec_internal hi
    rw [(hf s).1]
    exact hlive f
  cases i with
  | hostMemoryWrite | posting | withdrawal | cardReturn | lineCtlRun | lineCtlFreeze | lineCtlDrain | lineCtlOtherCode
  | attnWrite | attnEnWrite | startStatusWrite | registerWriteDropped => exact congrArg Host.Outcome.next (hserved _)
  | maskVerifyDeadlineExpiry | transferStart | transferDeadlineExpiry | segmentDeadlineExpiry
  | pressureSilenceDeadlineExpiry | flashOffDeadlineExpiry | openTimeDeadlineExpiry | ovenSilent | recoatExpired
  | lineTimeTick | frameTransmit => exact hinternal (by constructor)
  | powerOnReset | supplyDipReset | pinReset => exact hi.elim
  | motionFault diagnostic =>
    refine congrArg Host.Outcome.next ?_
    split
    · exact State.live_held h _
    · rfl
  | _ => exact hlive _

section
variable (x : StartState)

theorem State.append_started (e : Activity) :
    ({ s with start := x } : State).append e = { s.append e with start := x } := by
  have hfull : ({ s with start := x } : State).listFull = s.listFull := rfl
  unfold State.append
  rw [hfull]
  split <;> rfl

theorem State.settled_started (base : Nat) (bs : List Byte) (n : CardId) (e : DirectoryEntry) :
    (({ s with start := x } : State).writeMem base bs).setEntry n e =
      { (s.writeMem base bs).setEntry n e with start := x } := rfl

theorem State.completeAs_started (n : CardId) (kind : Byte) (hostTag : Word) (r : CardResult) :
    ({ s with start := x } : State).completeAs n kind hostTag r =
      { s.completeAs n kind hostTag r with start := x } := by
  rw [State.completeAs, State.settled_started, State.append_started]
  rfl

theorem State.visit_started (v : Visit) : ({ s with start := x } : State).visit v = { s.visit v with start := x } := by
  obtain ⟨u, hu⟩ : ∃ u : State, u = { s with start := x } := ⟨_, rfl⟩
  have hdue : u.due v = s.due v := by rw [hu]; cases v <;> rfl
  rw [← hu]
  cases h : s.due v with
  | false => rw [State.visit_not_due (hdue.trans h), State.visit_not_due h, hu]
  | true =>
    cases v with
    | card k =>
      have htaken : s.exchange.directory[k].state = .taken := beq_iff_eq.mp h
      have hsame : u.exchange = s.exchange := by rw [hu]
      rw [State.visit, State.visit, State.abortCard, State.abortCard, hsame, if_pos htaken, if_pos htaken, hu,
        State.completeAs_started]
    | board n =>
      have hvalid : (s.record n).valid = true := h
      have hsame : u.record n = s.record n := by rw [hu]; rfl
      rw [State.visit, State.visit, State.reportHeld, State.reportHeld, hsame, if_pos hvalid, if_pos hvalid, hu,
        State.append_started]

theorem State.visitAll_started (l : List Visit) :
    ({ s with start := x } : State).visitAll l = { s.visitAll l with start := x } := by
  induction l generalizing s with
  | nil => rfl
  | cons v l ih =>
    refine (congrArg (State.visitAll l) (State.visit_started x v)).trans ?_
    exact ih

end

/-- A restart that is let run makes every visit. -/
theorem State.resetBy_all (cause : ResetKind) {all : Nat} (h : 96 ≤ all) : s.resetBy cause (.restart all) =
    { ((s.noteCause cause).beginRestart (s.resetKind cause)).visitAll restartVisits with start := .running } := by
  have htake : restartVisits.take all = restartVisits := List.take_of_length_le (by simpa using h)
  have hdrop : restartVisits.drop all = [] := List.drop_of_length_le (by simpa using h)
  rw [State.resetBy]
  dsimp only
  rw [htake, hdrop]
  rfl

/-- A restart that is cut short has no visit left that finds anything, or the next event finishes it (R40, R175). -/
theorem State.resetBy_cut (cause : ResetKind) (visits : Nat) {all : Nat} (h : 96 ≤ all) :
    let t := s.resetBy cause (.restart visits)
    let w := s.resetBy cause (.restart all)
    t = w ∨ (t.start = .restarting visits ∧ exec .lineTimeTick t = .next { w with lineTime := 1 }) := by
  intro t w
  obtain ⟨b, hb⟩ : ∃ b, b = (s.noteCause cause).beginRestart (s.resetKind cause) := ⟨_, rfl⟩
  have hw : w = { b.visitAll restartVisits with start := .running } := hb ▸ State.resetBy_all cause h
  have htime : b.lineTime = 0 := by
    rw [hb]
    simp [State.beginRestart, State.convert]
  obtain ⟨u, hu⟩ : ∃ u, u = b.visitAll (restartVisits.take visits) := ⟨_, rfl⟩
  have hall : b.visitAll restartVisits = u.visitAll (restartVisits.drop visits) := by
    rw [hu, ← State.visitAll_append, List.take_append_drop]
  have ht : t = { u with start :=
      if (restartVisits.drop visits).any u.due then .restarting visits else .running } := by
    rw [hu, hb]
    rfl
  cases hdue : (restartVisits.drop visits).any u.due with
  | false =>
    refine Or.inl ?_
    rw [hdue] at ht
    rw [ht, hw, hall, State.visitAll_of_none_due fun v hv => by simpa using List.any_eq_false.mp hdue v hv]
    rfl
  | true =>
    rw [hdue] at ht
    have hrestarting : t.start = .restarting visits := by rw [ht]; rfl
    refine Or.inr ⟨hrestarting, congrArg Host.Outcome.next ((State.live_restarting hrestarting _).trans ?_)⟩
    have hfinished : t.finishRestart visits = w := by
      rw [State.finishRestart, ht, State.visitAll_started, hw, hall]
    have hzero : w.lineTime = 0 := by
      rw [hw]
      simp [htime]
    rw [hfinished, hzero]
    rfl

/-! ### The entries of a restart (R36, R179) -/

/-- The entry that a visit appends. -/
def State.visitEntry (s : State) : Visit → Activity
  | .card n => .cardDone n (s.exchange.mem.cardKind n) .abortedByReset (s.exchange.mem.cardTag n)
  | .board n => .boardHeld n .none (s.record n).reasons

/-- The result section of a card that a reset aborts (R36). -/
def State.abortBytes (s : State) (n : CardId) : List Byte :=
  CardResult.bytes ⟨.abortedByReset, []⟩ (s.exchange.mem.cardTag n)

theorem State.length_abortBytes (n : CardId) : (s.abortBytes n).length = 32 := CardResult.length_bytes ..

/-- What some visits, all of them due, leave behind: their entries one behind the other, the result sections of
the cards among them, their entries of the directory, and every other byte as it stood. -/
structure State.visited (s t : State) (done : List Visit) : Prop where
  canonical : t.canonical
  index : t.exchange.writeIndex.toNat = s.exchange.writeIndex.toNat + done.length
  logged : ∀ i v, done[i]? = some v → ∀ j < 16,
    t.exchange.mem.read (0x1000 + 16 * (s.exchange.writeIndex.toNat + i) + j) =
      ((s.visitEntry v).bytes s.lineTime).getD j 0
  results : ∀ k, .card k ∈ done → ∀ j < 32, t.exchange.mem.read (resultAt k + j) = (s.abortBytes k).getD j 0
  rest : ∀ a, (a < 0x1000 + 16 * s.exchange.writeIndex.toNat ∨
      0x1000 + 16 * (s.exchange.writeIndex.toNat + done.length) ≤ a) →
    (∀ k, .card k ∈ done → a < resultAt k ∨ resultAt k + 32 ≤ a) → t.exchange.mem.read a = s.exchange.mem.read a
  directory : ∀ k : CardId, t.exchange.directory[k] =
    if .card k ∈ done then ⟨.done, 12⟩ else s.exchange.directory[k]

/-- An append to a list that is read from its beginning and has room. -/
theorem State.append_room (hcanonical : s.canonical) (hroom : s.exchange.writeIndex.toNat < 255)
    (hread : s.readIndex = 0) (e : Activity) : (s.append e).canonical ∧
      (s.append e).exchange.writeIndex.toNat = s.exchange.writeIndex.toNat + 1 ∧
      ∀ a, (s.append e).exchange.mem.read a =
        if 0x1000 + 16 * s.exchange.writeIndex.toNat ≤ a ∧ a < 0x1000 + 16 * s.exchange.writeIndex.toNat + 16 then
          (e.bytes s.lineTime).getD (a - (0x1000 + 16 * s.exchange.writeIndex.toNat)) 0
        else s.exchange.mem.read a := by
  have hfull : s.listFull = false := by
    refine beq_eq_false_iff_ne.mpr fun h => ?_
    rw [hread] at h
    have hwraps := congrArg BitVec.toNat h
    rw [BitVec.toNat_add] at hwraps
    simp at hwraps
    omega
  refine ⟨?_, ?_, fun a => ?_⟩
  · rw [State.append_written hfull]
    exact Memory.wf_writeBytes hcanonical _ _
  · rw [State.append_written hfull]
    show (s.exchange.writeIndex + 1).toNat = _
    rw [BitVec.toNat_add]
    simp
    omega
  · rw [State.append_read hcanonical, hfull]
    simp only [true_and, entryAt]

/-- The state of an aborted card ahead of its CARD_DONE (R36). -/
def State.abortSettled (k : CardId) (s : State) : State :=
  (s.writeMem (resultAt k) (s.abortBytes k)).setEntry k ⟨.done, 12⟩

theorem State.abortSettled_mem (k : CardId) :
    (s.abortSettled k).exchange.mem = s.exchange.mem.writeBytes (resultAt k) (s.abortBytes k) := by
  simp only [State.abortSettled, State.setEntry_exchange, State.writeMem_exchange]

theorem State.abortSettled_read (hcanonical : s.canonical) (k : CardId) (a : Nat) :
    (s.abortSettled k).exchange.mem.read a =
      if resultAt k ≤ a ∧ a < resultAt k + 32 then (s.abortBytes k).getD (a - resultAt k) 0
      else s.exchange.mem.read a := by
  rw [State.abortSettled_mem, Memory.read_writeBytes hcanonical, State.length_abortBytes]

theorem resultAt_bounds (k : CardId) : 0x4000 + 992 ≤ resultAt k ∧ resultAt k + 32 ≤ 0x14000 := by
  simp only [resultAt, cardAt]
  omega

theorem State.abortSettled_keeps (hcanonical : s.canonical) (k : CardId) : (s.abortSettled k).canonical ∧
    (s.abortSettled k).exchange.writeIndex = s.exchange.writeIndex ∧ (s.abortSettled k).readIndex = s.readIndex ∧
    (s.abortSettled k).lineTime = s.lineTime ∧
    (s.abortSettled k).exchange.directory = s.exchange.directory.set k ⟨.done, 12⟩ := by
  refine ⟨?_, ?_, ?_, ?_, ?_⟩
  · rw [State.canonical, State.abortSettled_mem]
    exact Memory.wf_writeBytes hcanonical _ _
  · simp only [State.abortSettled, State.setEntry_exchange, State.writeMem_exchange]
  · have hcards := resultAt_bounds k
    rw [State.readIndex, State.abortSettled_read hcanonical, if_neg (by simp only [readIndexAt]; omega),
      State.readIndex]
  · simp only [State.abortSettled, State.setEntry_keeps, State.writeMem_keeps]
  · simp only [State.abortSettled, State.setEntry_exchange, State.writeMem_exchange]

theorem State.visit_board {n : Tag} (h : s.due (.board n) = true) :
    s.visit (.board n) = s.append (s.visitEntry (.board n)) := if_pos h

theorem State.visit_card {k : CardId} (h : s.due (.card k) = true) :
    s.visit (.card k) = (s.abortSettled k).append (s.visitEntry (.card k)) := if_pos (beq_iff_eq.mp h)

/-- One visit that is due appends its entry, behind the result section of a card. -/
theorem State.visit_visited {v : Visit} (hcanonical : s.canonical) (hroom : s.exchange.writeIndex.toNat < 255)
    (hread : s.readIndex = 0) (hdue : s.due v = true) : s.visited (s.visit v) [v] := by
  cases v with
  | board n =>
    obtain ⟨hkept, hindex, hbytes⟩ := State.append_room hcanonical hroom hread (s.visitEntry (.board n))
    rw [State.visit_board hdue]
    refine ⟨hkept, hindex, fun i v hv j hj => ?_, fun k hk => by simp at hk, fun a ha _ => ?_, fun k => by simp⟩
    · obtain ⟨rfl, rfl⟩ : i = 0 ∧ v = .board n := by
        cases i <;> simp_all
      rw [hbytes, if_pos (by omega)]
      congr 1
      omega
    · rw [hbytes, if_neg (by simp only [List.length_singleton] at ha; omega)]
  | card n =>
    obtain ⟨u, hu⟩ : ∃ u, u = s.abortSettled n := ⟨_, rfl⟩
    have hreads := State.abortSettled_read hcanonical n
    obtain ⟨hsettled, hsameIndex, hsameRead, hsameTime, hdirectory⟩ := State.abortSettled_keeps hcanonical n
    rw [← hu] at hsettled hsameIndex hsameRead hsameTime hdirectory
    rw [← hu] at hreads
    obtain ⟨hkept, hindex, hbytes⟩ := State.append_room hsettled (hsameIndex ▸ hroom) (hsameRead ▸ hread)
      (s.visitEntry (.card n))
    rw [hsameIndex] at hindex hbytes
    rw [hsameTime] at hbytes
    rw [State.visit_card hdue, ← hu]
    have hring := s.exchange.writeIndex.isLt
    have hcards := resultAt_bounds n
    refine ⟨hkept, hindex, fun i v hv j hj => ?_, fun k hk j hj => ?_, fun a ha hcard => ?_, fun k => ?_⟩
    · obtain ⟨rfl, rfl⟩ : i = 0 ∧ v = .card n := by
        cases i <;> simp_all
      rw [hbytes, if_pos (by omega)]
      congr 1
      omega
    · obtain rfl : k = n := by simpa using hk
      rw [hbytes, if_neg (by omega), hreads, if_pos (by omega), Nat.add_sub_cancel_left]
    · have houtside := hcard n List.mem_cons_self
      rw [hbytes, if_neg (by simp only [List.length_singleton] at ha; omega), hreads, if_neg (by omega)]
    · rw [State.append_directory, hdirectory, Vector.getElem_set_fin]
      simp

theorem resultAt_disjoint {k n : CardId} (h : k ≠ n) : resultAt k + 32 ≤ resultAt n ∨ resultAt n + 32 ≤ resultAt k := by
  have hval : k.val ≠ n.val := fun heq => h (Fin.ext heq)
  simp only [resultAt, cardAt]
  omega

/-- What a visit and the visits behind it leave. -/
theorem State.visited.cons {u t : State} {v : Visit} {done : List Visit} (hv : s.visited u [v]) (ht : u.visited t done)
    (htime : u.lineTime = s.lineTime) (hentry : ∀ w, u.visitEntry w = s.visitEntry w)
    (habort : ∀ k, u.abortBytes k = s.abortBytes k) (hnew : v ∉ done)
    (hroom : s.exchange.writeIndex.toNat + (done.length + 1) < 256) : s.visited t (v :: done) := by
  have hindex := hv.index
  rw [List.length_singleton] at hindex
  have hends := ht.index
  refine ⟨ht.canonical, ?_, fun i w hw j hj => ?_, fun k hk j hj => ?_, fun a ha hcard => ?_, fun k => ?_⟩
  · rw [List.length_cons]
    omega
  · cases i with
    | zero =>
      obtain rfl : v = w := by simpa using hw
      rw [ht.rest _ (Or.inl (by omega)) fun k _ => Or.inl (by have := resultAt_bounds k; omega)]
      exact hv.logged 0 v rfl j hj
    | succ i =>
      have hw : done[i]? = some w := by simpa using hw
      have hplace : 0x1000 + 16 * (s.exchange.writeIndex.toNat + (i + 1)) + j =
          0x1000 + 16 * (u.exchange.writeIndex.toNat + i) + j := by omega
      rw [hplace, ht.logged i w hw j hj, hentry, htime]
  · have hbounds := resultAt_bounds k
    by_cases hlater : Visit.card k ∈ done
    · rw [ht.results k hlater j hj, habort]
    · obtain rfl : v = Visit.card k := ((List.mem_cons.mp hk).resolve_right hlater).symm
      rw [ht.rest _ (Or.inr (by omega)) fun n hn => ?_]
      · exact hv.results k List.mem_cons_self j hj
      · have hdisjoint := resultAt_disjoint fun h : n = k => hnew (h ▸ hn)
        omega
  · rw [List.length_cons] at ha
    rw [ht.rest a (by omega) fun k hk => hcard k (List.mem_cons_of_mem v hk)]
    refine hv.rest a (by rw [List.length_singleton]; omega) fun k hk => hcard k ?_
    rw [List.mem_singleton.mp hk]
    exact List.mem_cons_self
  · rw [ht.directory, hv.directory]
    by_cases hlater : Visit.card k ∈ done
    · rw [if_pos hlater, if_pos (List.mem_cons_of_mem v hlater)]
    · simp only [List.mem_cons, hlater, or_false, if_false, List.not_mem_nil]

/-- A visit leaves the kind and the host tag of every card (R36). -/
theorem State.visited.head {u : State} {v : Visit} (hv : s.visited u [v])
    (hroom : s.exchange.writeIndex.toNat < 255) (k : CardId) :
    u.exchange.mem.cardKind k = s.exchange.mem.cardKind k ∧ u.exchange.mem.cardTag k = s.exchange.mem.cardTag k := by
  have hread (j : Nat) (hj : j < 8) : u.exchange.mem.read (cardAt k + j) = s.exchange.mem.read (cardAt k + j) := by
    refine hv.rest _ (Or.inr ?_) fun n _ => ?_
    · simp only [cardAt, List.length_singleton]
      omega
    · simp only [resultAt, cardAt]
      omega
  refine ⟨hread 0 (by omega), ?_⟩
  simp only [Memory.cardTag, Memory.readBytes]
  rw [hread 4 (by omega), Nat.add_assoc, hread 5 (by omega), Nat.add_assoc, hread 6 (by omega), Nat.add_assoc,
    hread 7 (by omega)]

/-- The visits that are due, one by one. -/
theorem State.visitAll_visited {l : List Visit} (hl : l.Nodup) (hcanonical : s.canonical)
    (hroom : s.exchange.writeIndex.toNat + l.length < 256) (hread : s.readIndex = 0) :
    s.visited (s.visitAll l) (l.filter s.due) := by
  induction l generalizing s with
  | nil =>
    exact ⟨hcanonical, rfl, fun i v hv => by simp at hv, fun k hk => by simp at hk, fun a _ _ => rfl,
      fun k => by simp [State.visitAll]⟩
  | cons v l ih =>
    obtain ⟨hv, hrest⟩ := List.nodup_cons.mp hl
    rw [List.length_cons] at hroom
    have hall : s.visitAll (v :: l) = (s.visit v).visitAll l := rfl
    cases hdue : s.due v with
    | false =>
      rw [hall, State.visit_not_due hdue, List.filter_cons_of_neg (by simp [hdue])]
      exact ih hrest hcanonical (by omega) hread
    | true =>
      have hvisit := State.visit_visited hcanonical (by omega) hread hdue
      obtain ⟨u, hu⟩ : ∃ u, u = s.visit v := ⟨_, rfl⟩
      have hkeeps : u.tracker = s.tracker ∧ u.lineTime = s.lineTime := by simp [hu]
      obtain ⟨htracker, htime⟩ := hkeeps
      rw [← hu] at hvisit
      have hrecord (n : Tag) : u.record n = s.record n := by rw [State.record, htracker]; rfl
      have hindex : u.exchange.writeIndex.toNat = s.exchange.writeIndex.toNat + 1 := hvisit.index
      have hhead := hvisit.head (by omega)
      have hzero : u.readIndex = 0 := by
        refine (hvisit.rest readIndexAt (Or.inl ?_) fun k _ => Or.inl ?_).trans hread
        · simp only [readIndexAt]
          omega
        · have := resultAt_bounds k
          simp only [readIndexAt]
          omega
      have hentry (w : Visit) : u.visitEntry w = s.visitEntry w := by
        cases w with
        | card k => simp only [State.visitEntry, hhead k]
        | board n => simp only [State.visitEntry, hrecord]
      have habort (k : CardId) : u.abortBytes k = s.abortBytes k := by
        rw [State.abortBytes, (hhead k).2]
        rfl
      have hdues : ∀ w ∈ l, u.due w = s.due w := fun w hw => by
        cases w with
        | card k =>
          have hother : Visit.card k ∉ [v] := fun h => hv (List.mem_singleton.mp h ▸ hw)
          have hsame : u.exchange.directory[k] = s.exchange.directory[k] := by
            rw [hvisit.directory, if_neg hother]
          exact congrArg (fun e => e.state == .taken) hsame
        | board n => exact congrArg BoardRecord.valid (hrecord n)
      have hlater := ih hrest hvisit.canonical (by omega) hzero
      have hlength := List.length_filter_le s.due l
      rw [List.filter_congr hdues] at hlater
      rw [hall, List.filter_cons_of_pos hdue, ← hu]
      exact hvisit.cons hlater htime hentry habort (fun h => hv (List.mem_of_mem_filter h)) (by omega)

/-! ### The conversion (R115, R178, R179) -/

theorem BoardRecord.restart_eq (b : BoardRecord) : b.restart =
    if b.valid = false then b
    else if b.stage = .held then { b with location := .none, recoatOpen := false }
    else { b with
      stage := .held, verdict := .hold, location := .none, heldTime := some 0, recoatOpen := false
      reasons := b.reasons ||| 16384 } := by
  have htransport : b.stage.transport = true ↔ b.stage ≠ .held := by cases b.stage <;> simp [Stage.transport]
  unfold BoardRecord.restart
  by_cases hvalid : b.valid = true
  · rw [if_pos hvalid, if_neg (c := b.valid = false) (by simp [hvalid])]
    by_cases hheld : b.stage = .held
    · rw [if_neg (mt htransport.mp (not_not_intro hheld)), if_pos hheld]
    · rw [if_pos (htransport.mpr hheld), if_neg hheld]
      rfl
  · rw [if_neg hvalid, if_pos (Bool.eq_false_iff.mpr hvalid)]

section
variable {boards : Vector BoardRecord 32} {f : FrameId}

theorem rebuiltFrame_of_owner {n : Tag} (hvalid : boards[n].valid = true) (hframe : boards[n].mapFrame = some f)
    (hunique : ∀ m : Tag, boards[m].valid = true → boards[m].mapFrame = some f → m = n) :
    rebuiltFrame boards f = ⟨.retained, some n, some boards[n].pass⟩ := by
  unfold rebuiltFrame
  cases hfind : allTags.find? fun t => boards[t].valid && boards[t].mapFrame == some f with
  | none =>
    have hnot := List.find?_eq_none.mp hfind n (List.mem_finRange n)
    exact (hnot ((Bool.and_eq_true ..).mpr ⟨hvalid, beq_iff_eq.mpr hframe⟩)).elim
  | some m =>
    have hfound := List.find?_some hfind
    rw [Bool.and_eq_true, beq_iff_eq] at hfound
    rw [hunique m hfound.1 hfound.2]

theorem rebuiltFrame_of_unnamed (h : ∀ n : Tag, boards[n].valid = true → boards[n].mapFrame ≠ some f) :
    rebuiltFrame boards f = ⟨.free, none, none⟩ := by
  have hnone : (allTags.find? fun t => boards[t].valid && boards[t].mapFrame == some f) = none := by
    refine List.find?_eq_none.mpr fun n _ => ?_
    rw [Bool.and_eq_true, beq_iff_eq]
    exact fun hn => h n hn.1 hn.2
  unfold rebuiltFrame
  rw [hnone]
  rfl

theorem mem_rebuiltOrder (n : Tag) : n ∈ rebuiltOrder boards ↔ boards[n].valid = true := by
  rw [rebuiltOrder, List.mem_insertionSort, List.mem_filter]
  exact and_iff_right (List.mem_finRange n)

theorem rebuiltOrder_pairwise : (rebuiltOrder boards).Pairwise fun a b =>
    ((boards[a].heldTime).getD 0).toNat < ((boards[b].heldTime).getD 0).toNat ∨
      (((boards[a].heldTime).getD 0).toNat = ((boards[b].heldTime).getD 0).toNat ∧ a < b) := by
  have hsorted := List.pairwise_insertionSort (fun a b => holdKey boards a ≤ holdKey boards b)
    (allTags.filter fun t => boards[t].valid)
  have hnodup : (rebuiltOrder boards).Nodup :=
    (List.perm_insertionSort _ _).nodup_iff.mpr ((List.nodup_finRange 32).filter _)
  refine (hsorted.and hnodup).imp fun {a b} ⟨hkey, hne⟩ => ?_
  have hval : a.val ≠ b.val := fun h => hne (Fin.ext h)
  simp only [holdKey] at hkey
  rw [Fin.lt_def]
  omega

end

/-! ### What a restart leaves (R176-R179) -/

theorem State.append_flags (e : Activity) : (s.append e).exchange.scanPending = s.exchange.scanPending ∧
    (s.append e).exchange.startStatus = s.exchange.startStatus := by
  unfold State.append
  split <;> exact ⟨rfl, rfl⟩

theorem State.visit_flags (v : Visit) : (s.visit v).exchange.scanPending = s.exchange.scanPending ∧
    (s.visit v).exchange.startStatus = s.exchange.startStatus := by
  cases hdue : s.due v with
  | false => rw [State.visit_not_due hdue]; exact ⟨rfl, rfl⟩
  | true =>
    cases v with
    | board n =>
      rw [State.visit_board hdue]
      exact State.append_flags _
    | card k =>
      obtain ⟨hpending, hstatus⟩ := (s.abortSettled k).append_flags (s.visitEntry (.card k))
      rw [State.visit_card hdue, hpending, hstatus]
      simp only [State.abortSettled, State.setEntry_exchange, State.writeMem_exchange, and_self]

theorem State.visitAll_flags (l : List Visit) : (s.visitAll l).exchange.scanPending = s.exchange.scanPending ∧
    (s.visitAll l).exchange.startStatus = s.exchange.startStatus :=
  ⟨foldl_keeps (·.exchange.scanPending) State.visit (fun _ v => (State.visit_flags v).1) s l,
    foldl_keeps (·.exchange.startStatus) State.visit (fun _ v => (State.visit_flags v).2) s l⟩

theorem State.beginRestart_other {kind : ResetKind} (h : kind ≠ .powerOn) :
    s.beginRestart kind = s.convert.append (.lineMode .lost .lost (some kind)) := by
  cases kind with
  | powerOn => exact absurd rfl h
  | supplyDip => rfl
  | pin => rfl

theorem State.convert_read (a : Nat) : s.convert.exchange.mem.read a =
    if 0x100 ≤ a ∧ a < 0x200 then 0 else s.exchange.mem.read a := by
  refine (Memory.read_clearWhere ..).trans ?_
  simp only [inHostHeader, Bool.and_eq_true, decide_eq_true_eq]

/-- The restart up to its first entry: LINE_MODE at index 0, the host header zero, and every other byte kept. -/
theorem State.beginRestart_spec (hcanonical : s.canonical) {kind : ResetKind} (h : kind ≠ .powerOn) :
    let b := s.beginRestart kind
    b.canonical ∧ b.exchange.writeIndex.toNat = 1 ∧ b.readIndex = 0 ∧
      ∀ a, b.exchange.mem.read a =
        if 0x1000 ≤ a ∧ a < 0x1010 then
          ((Activity.lineMode .lost .lost (some kind)).bytes 0).getD (a - 0x1000) 0
        else if 0x100 ≤ a ∧ a < 0x200 then 0 else s.exchange.mem.read a := by
  intro b
  have hwf : s.convert.canonical := Memory.wf_clearWhere hcanonical _
  have hzero : s.convert.readIndex = 0 := (State.convert_read readIndexAt).trans (if_pos (by simp [readIndexAt]))
  obtain ⟨hkept, hindex, hread⟩ :=
    State.append_room hwf (by simp [State.convert]) hzero (.lineMode .lost .lost (some kind))
  rw [← State.beginRestart_other h] at hkept hindex hread
  have hstart : s.convert.exchange.writeIndex.toNat = 0 := rfl
  rw [hstart] at hindex hread
  have hreads (a : Nat) := (hread a).trans (by rw [State.convert_read])
  refine ⟨hkept, hindex, ?_, hreads⟩
  refine (hreads readIndexAt).trans ?_
  rw [if_neg (by simp [readIndexAt]), if_pos (by simp [readIndexAt])]

theorem restartVisits_nodup : restartVisits.Nodup := by
  refine List.nodup_append.mpr ⟨(List.nodup_finRange 64).map fun a b h => Visit.card.inj h,
    (List.nodup_finRange 32).map fun a b h => Visit.board.inj h, fun v hv w hw => ?_⟩
  obtain ⟨k, -, rfl⟩ := List.mem_map.mp hv
  obtain ⟨n, -, rfl⟩ := List.mem_map.mp hw
  exact fun h => by cases h

theorem State.dueVisits_eq : restartVisits.filter s.due =
    (allCards.filter fun k => s.exchange.directory[k].state == .taken).map .card ++
      (allTags.filter fun n => (s.record n).valid).map .board := by
  rw [restartVisits, List.filter_append, List.filter_map, List.filter_map]
  rfl

theorem State.bytesAt_of_reads {o : Nat} {bs : List Byte} (hstored : ∀ j < bs.length, stored (o + j))
    (h : ∀ j < bs.length, s.exchange.mem.read (o + j) = bs.getD j 0) : s.bytesAt o bs.length = bs := by
  refine List.ext_getElem (by simp [State.bytesAt]) fun j hj hj' => ?_
  simp only [State.bytesAt, List.getElem_map, List.getElem_range]
  rw [State.readByte_stored (hstored j hj'), h j hj', List.getD_eq_getElem]

/-- The host tag of a card as four bytes (R32). -/
def State.hostTag (s : State) (k : CardId) : List Byte :=
  (List.range 4).map fun i => s.exchange.mem.read (cardAt k + 4 + i)

theorem State.cardTag_eq (k : CardId) : s.exchange.mem.cardTag k = word (ofLe (s.hostTag k)) := rfl

theorem State.abortBytes_eq (k : CardId) : s.abortBytes k = le32 12 ++ List.replicate 24 0 ++ s.hostTag k := by
  have htag : le32 (s.exchange.mem.cardTag k) = s.hostTag k := le32_word_ofLe ..
  have hdetails : (List.range 6).flatMap (fun i => le32 (([] : List Word).getD i 0)) = List.replicate 24 0 := by decide
  rw [State.abortBytes, CardResult.bytes, htag, hdetails]
  rfl

/-- The part after a SUPPLY_DIP or PIN reset whose restart makes every visit. -/
def State.restarted (cause : ResetKind) (s : State) : State :=
  { ((s.noteCause cause).beginRestart (s.resetKind cause)).visitAll restartVisits with start := .running }

theorem State.visited.started {t : State} {done : List Visit} (h : s.visited t done) (x : StartState) :
    s.visited { t with start := x } done :=
  ⟨h.canonical, h.index, h.logged, h.results, h.rest, h.directory⟩

/-- What a restart's visits leave, over the memory as the reset found it. -/
theorem State.restarted_visited {cause : ResetKind} (hcanonical : s.canonical) (hkind : s.resetKind cause ≠ .powerOn) :
    let b := (s.noteCause cause).beginRestart (s.resetKind cause)
    b.visited (s.restarted cause)
      ((allCards.filter fun k => s.exchange.directory[k].state == .taken).map .card ++
        (allTags.filter fun n => (s.record n).valid).map .board) := by
  intro b
  obtain ⟨hkept, hindex, hzero, -⟩ := State.beginRestart_spec (s := s.noteCause cause) hcanonical hkind
  have hvisited : b.visited (b.visitAll restartVisits) (restartVisits.filter b.due) :=
    State.visitAll_visited restartVisits_nodup hkept (by rw [hindex, length_restartVisits]; omega) hzero
  have hdirectory (k : CardId) : b.exchange.directory[k] = s.exchange.directory[k] := by
    rw [show b = (s.noteCause cause).convert.append _ from State.beginRestart_other hkind, State.append_directory]
    rfl
  have hvalid (n : Tag) : (b.record n).valid = (s.record n).valid := by
    rw [show b = (s.noteCause cause).convert.append _ from State.beginRestart_other hkind, State.append_record,
      State.record_convert]
    exact (BoardRecord.same_restart _).valid
  have hdue : restartVisits.filter b.due =
      (allCards.filter fun k => s.exchange.directory[k].state == .taken).map .card ++
        (allTags.filter fun n => (s.record n).valid).map .board := by
    rw [State.dueVisits_eq]
    simp only [hdirectory, hvalid]
  rw [hdue] at hvisited
  exact hvisited.started .running

/-- The parts that a restart returns to their reset values, and the boards it keeps (R176, R178). -/
theorem State.restarted_keeps {cause : ResetKind} (hkind : s.resetKind cause ≠ .powerOn) :
    let t := s.restarted cause
    let boards := s.tracker.boards.map BoardRecord.restart
    t.lineTime = 0 ∧ t.exchange.scanPending = false ∧
      t.exchange.startStatus = s.exchange.startStatus ||| cause.bit ∧ t.cards = ⟨[], none⟩ ∧
      t.tables = Tables.reset ∧ t.tracker = Tracker.reset boards ∧ t.verifier = Verifier.reset ∧
      t.sequencer = Sequencer.reset ∧ t.cure = Cure.reset ∧ t.line = ⟨.lost, none⟩ ∧ t.ports = Ports.reset ∧
      t.holds = ⟨Vector.replicate 8 .free, rebuiltOrder boards, []⟩ ∧
      t.coverage = ⟨Vector.ofFn (rebuiltFrame boards)⟩ ∧ t.pending = s.pending := by
  have hbegin := State.beginRestart_other (s := s.noteCause cause) hkind
  obtain ⟨hpending, hstatus⟩ :=
    ((s.noteCause cause).beginRestart (s.resetKind cause)).visitAll_flags restartVisits
  rw [hbegin, (State.append_flags _).1] at hpending
  rw [hbegin, (State.append_flags _).2] at hstatus
  have hnoted : (s.noteCause cause).convert.exchange.startStatus = s.exchange.startStatus ||| cause.bit :=
    if_neg hkind
  rw [hnoted] at hstatus
  unfold State.restarted
  rw [hbegin]
  simp only [State.visitAll_keeps, State.append_keeps]
  exact ⟨rfl, hpending, hstatus, rfl, rfl, rfl, rfl, rfl, rfl, rfl, rfl, rfl, rfl, rfl⟩

theorem State.restarted_record {cause : ResetKind} (hkind : s.resetKind cause ≠ .powerOn) (n : Tag) :
    (s.restarted cause).record n = (s.record n).restart := by
  obtain ⟨-, -, -, -, -, htracker, -⟩ := State.restarted_keeps hkind
  rw [State.record, htracker]
  exact Vector.getElem_map ..

/-- The bytes that a restart leaves as its entries and result sections leave them (R36, R176, R179). -/
theorem State.restarted_memory {cause : ResetKind} (hcanonical : s.canonical)
    (hkind : s.resetKind cause ≠ .powerOn) :
    let t := s.restarted cause
    let aborted := allCards.filter fun k => s.exchange.directory[k].state == .taken
    let log := [Activity.lineMode .lost .lost (some (s.resetKind cause))] ++
      aborted.map (fun k =>
        .cardDone k (s.exchange.mem.read (cardAt k)) .abortedByReset (word (ofLe (s.hostTag k)))) ++
      (allTags.filter fun n => (s.record n).valid).map fun n => .boardHeld n .none (t.record n).reasons
    (∀ k : CardId, t.exchange.directory[k] =
      if s.exchange.directory[k].state = .taken then ⟨.done, 12⟩ else s.exchange.directory[k]) ∧
    (∀ k ∈ aborted, t.bytesAt (cardAt k + 992) 32 = le32 12 ++ List.replicate 24 0 ++ s.hostTag k) ∧
    t.exchange.writeIndex.toNat = log.length ∧
    (∀ (i : Nat) (e : Activity), log[i]? = some e → t.bytesAt (0x1000 + 16 * i) 16 = e.bytes 0) ∧
    (∀ a, 0x1000 + 16 * log.length ≤ a → (∀ k ∈ aborted, a < cardAt k + 992 ∨ cardAt k + 1024 ≤ a) →
      t.exchange.mem.read a = s.exchange.mem.read a) ∧
    ∀ a, 0x100 ≤ a → a < 0x200 → t.readByte a = 0 := by
  intro t aborted log
  obtain ⟨-, hfirst, -, hread⟩ := State.beginRestart_spec (s := s.noteCause cause) hcanonical hkind
  have hvisited := State.restarted_visited hcanonical hkind
  obtain ⟨b, hb⟩ : ∃ b, b = (s.noteCause cause).beginRestart (s.resetKind cause) := ⟨_, rfl⟩
  obtain ⟨done, hdone⟩ : ∃ done : List Visit, done =
    aborted.map .card ++ (allTags.filter fun n => (s.record n).valid).map .board := ⟨_, rfl⟩
  rw [← hb] at hfirst hread hvisited
  rw [← hdone] at hvisited
  have hcards (k : CardId) : Visit.card k ∈ done ↔ k ∈ aborted := by
    rw [hdone]
    simp
  have haborted (k : CardId) : k ∈ aborted ↔ s.exchange.directory[k].state = .taken := by
    rw [List.mem_filter, beq_iff_eq]
    exact and_iff_right (List.mem_finRange k)
  have hbegin : b = (s.noteCause cause).convert.append (.lineMode .lost .lost (some (s.resetKind cause))) :=
    hb.trans (State.beginRestart_other hkind)
  have hbdirectory (k : CardId) : b.exchange.directory[k] = s.exchange.directory[k] := by
    rw [hbegin, State.append_directory]
    rfl
  have hbtime : b.lineTime = 0 := by
    rw [hbegin, (State.append_keeps _ _).2.1]
    rfl
  have hbrecord (n : Tag) : b.record n = t.record n := by
    rw [State.restarted_record hkind, hbegin, State.append_record]
    exact State.record_convert (s.noteCause cause) n
  have hhost (k : CardId) (j : Nat) : b.exchange.mem.read (cardAt k + j) = s.exchange.mem.read (cardAt k + j) := by
    rw [hread, if_neg (by simp only [cardAt]; omega), if_neg (by simp only [cardAt]; omega)]
    rfl
  have htag (k : CardId) : b.hostTag k = s.hostTag k := by
    simp only [State.hostTag, Nat.add_assoc, hhost]
  have hcard (k : CardId) : b.visitEntry (.card k) =
      .cardDone k (s.exchange.mem.read (cardAt k)) .abortedByReset (word (ofLe (s.hostTag k))) := by
    rw [State.visitEntry, State.cardTag_eq, htag, Memory.cardKind]
    exact congrArg (Activity.cardDone k · .abortedByReset (word (ofLe (s.hostTag k)))) (hhost k 0)
  have hboard (n : Tag) : b.visitEntry (.board n) = .boardHeld n .none (t.record n).reasons := by
    rw [State.visitEntry, hbrecord]
  have hlog : log = .lineMode .lost .lost (some (s.resetKind cause)) :: done.map b.visitEntry := by
    rw [hdone, List.map_append, List.map_map, List.map_map]
    simp only [Function.comp_def, hcard, hboard]
    rfl
  have hlength : log.length = 1 + done.length := by rw [hlog, List.length_cons, List.length_map, Nat.add_comm]
  have hring : done.length ≤ 96 := by
    have hlow : aborted.length ≤ 64 := List.length_filter_le ..
    have hhigh : (allTags.filter fun n => (s.record n).valid).length ≤ 32 := List.length_filter_le ..
    rw [hdone, List.length_append, List.length_map, List.length_map]
    omega
  have hbelow (a : Nat) (ha : a < 0x1010) : t.exchange.mem.read a = b.exchange.mem.read a :=
    hvisited.rest a (Or.inl (by omega)) fun k _ => Or.inl (by have := resultAt_bounds k; omega)
  refine ⟨fun k => ?_, fun k hk => ?_, ?_, fun i e he => ?_, fun a ha hclear => ?_, fun a hlow hhigh => ?_⟩
  · rw [hvisited.directory, hbdirectory]
    simp only [hcards, haborted]
  · have hbytes := State.bytesAt_of_reads (s := t) (o := resultAt k) (bs := b.abortBytes k)
      (fun j hj => Or.inr (Or.inr (by
        have := resultAt_bounds k
        rw [State.length_abortBytes] at hj
        omega)))
      fun j hj => hvisited.results k ((hcards k).mpr hk) j (by rwa [State.length_abortBytes] at hj)
    rw [State.length_abortBytes, State.abortBytes_eq, htag] at hbytes
    exact hbytes
  · rw [hvisited.index, hfirst, hlength]
  · have hsize := Activity.length_bytes e 0
    rw [hlog] at he
    have hplace : i < done.length + 1 := by
      obtain ⟨hi, -⟩ := List.getElem?_eq_some_iff.mp he
      simpa using hi
    have hbytes := State.bytesAt_of_reads (s := t) (o := 0x1000 + 16 * i) (bs := e.bytes 0)
      (fun j hj => Or.inr (Or.inl (by omega))) fun j hj => ?_
    · rwa [hsize] at hbytes
    · rw [hsize] at hj
      cases i with
      | zero =>
        obtain rfl := Option.some.inj he
        rw [hbelow _ (by omega), hread, if_pos (by omega), Nat.mul_zero, Nat.add_zero, Nat.add_sub_cancel_left]
      | succ i =>
        obtain ⟨v, hv, rfl⟩ := Option.map_eq_some_iff.mp ((List.getElem?_map ..).symm.trans he)
        have hlogged := hvisited.logged i v hv j hj
        rw [hfirst, hbtime, Nat.add_comm 1] at hlogged
        exact hlogged
  · rw [hlength] at ha
    have hkept := hvisited.rest a (Or.inr (by omega)) fun k hk => hclear k ((hcards k).mp hk)
    rw [hkept, hread, if_neg (by omega), if_neg (by omega), State.noteCause]
  · rw [State.readByte_stored (Or.inl ⟨hlow, hhigh⟩), hbelow a (by omega), hread, if_neg (by omega),
      if_pos ⟨hlow, hhigh⟩]

/-- A SUPPLY_DIP or PIN reset whose restart is let run, by what the restart leaves. -/
theorem exec_restarted {cause : ResetKind} {cmd : Nat → Instr} {visits : Nat}
    (hcmd : (cause = .supplyDip ∧ cmd = fun n => .supplyDipReset (.restart n)) ∨
      (cause = .pin ∧ cmd = fun n => .pinReset (.restart n))) (hvisits : 96 ≤ visits) :
    exec (cmd visits) s = .next (s.restarted cause) := by
  have hall : s.resetBy cause (.restart visits) = s.restarted cause := State.resetBy_all cause hvisits
  rw [← hall]
  obtain ⟨rfl, rfl⟩ | ⟨rfl, rfl⟩ := hcmd <;> rfl

theorem State.joinedKind_powerOn : s.joinedKind .powerOn = .powerOn := by
  unfold State.joinedKind
  cases s.start with
  | held kind => exact if_pos (Or.inr rfl)
  | running => rfl
  | restarting visits => rfl

theorem ResetKind.bit_eq {cause : ResetKind} (h : s.joinedKind cause ≠ .powerOn) :
    cause.bit = if cause = .supplyDip then 0b010 else 0b100 := by
  cases cause with
  | powerOn => exact absurd State.joinedKind_powerOn h
  | supplyDip => rfl
  | pin => rfl

/-- Settles O53: the conversion and its entries, parts that are held, and restarts that are cut short. -/
theorem restartsConvertTheBoards : Obligations.RestartsConvertTheBoards := by
  refine ⟨fun s cause kind cmd visits hcanonical hcmd hjoined hkind hvisits => ?converted, fun s visits hheld => ?_,
    fun s cause cmd hcmd => ?_, fun s kind c hheld hc => exec_held hheld hc, fun s cmd visits all hcmd hall => ?_⟩
  case converted =>
    intro aborted kept hostTag
    obtain rfl : s.resetKind cause = kind := (State.resetKind_joins cause).trans hjoined
    obtain ⟨htime, hpending, hstatus, hcards, htables, htracker, hverifier, hsequencer, hcure, hline, hports, hholds,
      hcoverage, hqueue⟩ := State.restarted_keeps hkind
    obtain ⟨hdirectory, hresults, hindex, hlogged, hrest, hheader⟩ := State.restarted_memory hcanonical hkind
    have hall : s.resetBy cause (.restart visits) = s.restarted cause := State.resetBy_all cause hvisits
    have hboards : (s.restarted cause).tracker.boards = s.tracker.boards.map BoardRecord.restart := by
      rw [htracker]
      rfl
    have hrecord (n : Tag) : (s.restarted cause).record n = (s.tracker.boards.map BoardRecord.restart)[n] := by
      rw [State.record, hboards]
    have horder : (s.restarted cause).holdOrder = rebuiltOrder (s.tracker.boards.map BoardRecord.restart) := by
      rw [State.holdOrder, hholds, List.append_nil]
    have hframe (f : FrameId) : (s.restarted cause).coverage.frames[f] =
        rebuiltFrame (s.tracker.boards.map BoardRecord.restart) f := by
      rw [hcoverage]
      exact Vector.getElem_ofFn ..
    refine ⟨s.restarted cause, exec_restarted hcmd hvisits, rfl, htime, ?_, ?_, ?_, hpending, hcards, htables, ?_,
      hverifier, hsequencer, hcure, hline, hports, by rw [hholds], hqueue, fun n => ?_, fun f n hvalid hnamed hunique
          => ?_,
      fun f hunnamed => ?_, fun n => ?_, ?_, hdirectory, hresults, ⟨hindex, hlogged, hrest⟩, hheader⟩
    · rw [← hall]
      exact State.resetBy_restart_attnEn ..
    · rw [← hall]
      exact State.resetBy_restart_attn_restart ..
    · rw [hstatus]
      obtain ⟨rfl, -⟩ | ⟨rfl, -⟩ := hcmd <;> rfl
    · rw [hboards, htracker]
    · rw [State.restarted_record hkind]
      exact BoardRecord.restart_eq _
    · simp only [hrecord] at hvalid hnamed hunique ⊢
      rw [hframe]
      exact rebuiltFrame_of_owner hvalid hnamed hunique
    · simp only [hrecord] at hunnamed
      rw [hframe]
      exact rebuiltFrame_of_unnamed hunnamed
    · rw [horder, hrecord]
      exact mem_rebuiltOrder n
    · rw [horder]
      simp only [hrecord]
      exact rebuiltOrder_pairwise
  · have hkind (cause : ResetKind) : s.resetKind cause = .powerOn := by
      rw [State.resetKind, hheld]
      cases cause <;> rfl
    intro cmd hcmd
    simp only [List.mem_cons, List.not_mem_nil, or_false] at hcmd
    obtain rfl | rfl := hcmd
    · exact congrArg Host.Outcome.next (State.resetBy_powerOn (hkind .pin) visits)
    · exact congrArg Host.Outcome.next (State.resetBy_powerOn (hkind .supplyDip) visits)
  · intro silent
    have hnotes : exec cmd s = .next (s.resetBy cause .held) := by
      simp only [List.mem_cons, Prod.mk.injEq, List.not_mem_nil, or_false] at hcmd
      obtain ⟨rfl, rfl⟩ | ⟨rfl, rfl⟩ | ⟨rfl, rfl⟩ := hcmd <;> rfl
    rw [hnotes, State.resetBy]
    dsimp only
    rw [State.noteCause, State.resetKind_joins]
    by_cases hkind : s.joinedKind cause = .powerOn
    · rw [if_pos hkind, if_pos hkind]
      rfl
    · rw [if_neg hkind, if_neg hkind, ResetKind.bit_eq hkind]
      rfl
  · obtain ⟨cause, hcause⟩ : ∃ cause, ∀ n, exec (cmd n) s = .next (s.resetBy cause (.restart n)) := by
      obtain rfl | rfl := hcmd
      · exact ⟨.supplyDip, fun n => rfl⟩
      · exact ⟨.pin, fun n => rfl⟩
    exact ⟨_, _, hcause visits, hcause all, State.resetBy_cut cause visits hall⟩

end Sys2Proof.Machine
end
